-- ==== Sys2Proof/Word.lean ====
section
/-! DEFINITION. The word types of the CORE (spec/00_scope.md R9, R11, R12): every quantity is an unsigned bit vector. -/

namespace Sys2Proof

/-- The addressable unit and the width of a general register (R9 `BYTE_W`, `REG_W`). -/
abbrev Byte := BitVec 8

/-- An instruction word; also the width of I, PC and a stack slot (R9, R11). -/
abbrev Word := BitVec 16

/-- A 4-bit field: a register selector x or y, or the count n (R11, R93). -/
abbrev Nibble := BitVec 4

/-- A register number 0 to 15 (R20): every value of the field names a register. -/
abbrev Reg := Nibble

/-- A 12-bit address field nnn (R93). -/
abbrev Addr12 := BitVec 12

end Sys2Proof
end

