-- ==== Sys2Proof/Syntax.lean ====
section
/-! DEFINITION. The 35 instructions of spec/30_encoding.md R96, one constructor per row of spec/opcode_table.json. -/

namespace Sys2Proof

/-- One instruction, its fields as R93 cuts them out of the word. The pattern of R96 stands beside each constructor. -/
inductive Instr where
  /-- `00E0` -/
  | cls
  /-- `00EE` -/
  | ret
  /-- `0nnn` -/
  | sys (nnn : Addr12)
  /-- `1nnn` -/
  | jp (nnn : Addr12)
  /-- `2nnn` -/
  | call (nnn : Addr12)
  /-- `3xkk` -/
  | seImm (x : Reg) (kk : Byte)
  /-- `4xkk` -/
  | sneImm (x : Reg) (kk : Byte)
  /-- `5xy0` -/
  | seReg (x y : Reg)
  /-- `6xkk` -/
  | ldImm (x : Reg) (kk : Byte)
  /-- `7xkk` -/
  | addImm (x : Reg) (kk : Byte)
  /-- `8xy0` -/
  | ldReg (x y : Reg)
  /-- `8xy1` -/
  | orReg (x y : Reg)
  /-- `8xy2` -/
  | andReg (x y : Reg)
  /-- `8xy3` -/
  | xorReg (x y : Reg)
  /-- `8xy4` -/
  | addReg (x y : Reg)
  /-- `8xy5` -/
  | subReg (x y : Reg)
  /-- `8xy6` -/
  | shr (x y : Reg)
  /-- `8xy7` -/
  | subnReg (x y : Reg)
  /-- `8xyE` -/
  | shl (x y : Reg)
  /-- `9xy0` -/
  | sneReg (x y : Reg)
  /-- `Annn` -/
  | ldI (nnn : Addr12)
  /-- `Bnnn` -/
  | jpV0 (nnn : Addr12)
  /-- `Cxkk` -/
  | rnd (x : Reg) (kk : Byte)
  /-- `Dxyn` -/
  | drw (x y : Reg) (n : Nibble)
  /-- `Ex9E` -/
  | skp (x : Reg)
  /-- `ExA1` -/
  | sknp (x : Reg)
  /-- `Fx07` -/
  | ldVxDt (x : Reg)
  /-- `Fx0A` -/
  | ldVxK (x : Reg)
  /-- `Fx15` -/
  | ldDtVx (x : Reg)
  /-- `Fx18` -/
  | ldStVx (x : Reg)
  /-- `Fx1E` -/
  | addI (x : Reg)
  /-- `Fx29` -/
  | ldF (x : Reg)
  /-- `Fx33` -/
  | ldB (x : Reg)
  /-- `Fx55` -/
  | storeRegs (x : Reg)
  /-- `Fx65` -/
  | loadRegs (x : Reg)
  deriving DecidableEq, Repr

end Sys2Proof
end

