-- ==== Sys2Proof/Decode.lean ====
section
/-! DEFINITION. Decoding and encoding (spec/30_encoding.md R91 to R101): the fields, the decoder, total on any bytes, the
encoder written from the same patterns, the opcode map of R96, and the host's view of the decoder. -/

namespace Sys2Proof

/-! ### Fields (R93) -/

/-- The major opcode, word[15:12]. -/
def fieldOp (w : Word) : Nibble := w.extractLsb' 12 4

/-- x, word[11:8]. -/
def fieldX (w : Word) : Reg := w.extractLsb' 8 4

/-- y, word[7:4]. -/
def fieldY (w : Word) : Reg := w.extractLsb' 4 4

/-- n, or the sub-opcode of groups 5, 8 and 9, word[3:0]. -/
def fieldN (w : Word) : Nibble := w.extractLsb' 0 4

/-- kk, or the function code fn of groups E and F, word[7:0]. -/
def fieldKk (w : Word) : Byte := w.extractLsb' 0 8

/-- nnn, word[11:0]. -/
def fieldNnn (w : Word) : Addr12 := w.extractLsb' 0 12

/-! ### Decoding (R95, R97, R98) -/

/-- Why bytes are no instruction. A fetched word that is none raises `DECODE` (R97); the names of the groups are the model's
(log entry 15). -/
inductive DecodeError where
  /-- fewer than two bytes are left (R91); a fetch always has two -/
  | truncated
  /-- `5xyN` with N other than 0 (R97) -/
  | group5 (n : Nibble)
  /-- `8xyN` with N in 8, 9, A, B, C, D, F (R97, R98) -/
  | group8 (n : Nibble)
  /-- `9xyN` with N other than 0 (R97) -/
  | group9 (n : Nibble)
  /-- `ExKK` with KK other than 9E, A1 (R97) -/
  | groupE (fn : Byte)
  /-- `FxKK` with KK not one of the nine function codes (R97) -/
  | groupF (fn : Byte)
  deriving DecidableEq, Repr

/-- Group 0: the two exact patterns are tested first, every other word is `0nnn` (R95). -/
def decodeGroup0 (w : Word) : Instr :=
  if w = 0x00E0#16 then .cls
  else if w = 0x00EE#16 then .ret
  else .sys (fieldNnn w)

/-- Group 8: the nine sub-opcodes (R95, R98). -/
def decodeGroup8 (w : Word) : Except DecodeError Instr :=
  let x := fieldX w
  let y := fieldY w
  if fieldN w = 0x0#4 then .ok (.ldReg x y)
  else if fieldN w = 0x1#4 then .ok (.orReg x y)
  else if fieldN w = 0x2#4 then .ok (.andReg x y)
  else if fieldN w = 0x3#4 then .ok (.xorReg x y)
  else if fieldN w = 0x4#4 then .ok (.addReg x y)
  else if fieldN w = 0x5#4 then .ok (.subReg x y)
  else if fieldN w = 0x6#4 then .ok (.shr x y)
  else if fieldN w = 0x7#4 then .ok (.subnReg x y)
  else if fieldN w = 0xE#4 then .ok (.shl x y)
  else .error (.group8 (fieldN w))

/-- Group E: the two key function codes (R95). -/
def decodeGroupE (w : Word) : Except DecodeError Instr :=
  if fieldKk w = 0x9E#8 then .ok (.skp (fieldX w))
  else if fieldKk w = 0xA1#8 then .ok (.sknp (fieldX w))
  else .error (.groupE (fieldKk w))

/-- Group F: the nine function codes (R95). -/
def decodeGroupF (w : Word) : Except DecodeError Instr :=
  let x := fieldX w
  if fieldKk w = 0x07#8 then .ok (.ldVxDt x)
  else if fieldKk w = 0x0A#8 then .ok (.ldVxK x)
  else if fieldKk w = 0x15#8 then .ok (.ldDtVx x)
  else if fieldKk w = 0x18#8 then .ok (.ldStVx x)
  else if fieldKk w = 0x1E#8 then .ok (.addI x)
  else if fieldKk w = 0x29#8 then .ok (.ldF x)
  else if fieldKk w = 0x33#8 then .ok (.ldB x)
  else if fieldKk w = 0x55#8 then .ok (.storeRegs x)
  else if fieldKk w = 0x65#8 then .ok (.loadRegs x)
  else .error (.groupF (fieldKk w))

/-- `Decode(word)` of R95: the one row of R96 whose pattern matches, or an error that says which group has no such row. -/
def decodeWord (w : Word) : Except DecodeError Instr :=
  if fieldOp w = 0x0#4 then .ok (decodeGroup0 w)
  else if fieldOp w = 0x1#4 then .ok (.jp (fieldNnn w))
  else if fieldOp w = 0x2#4 then .ok (.call (fieldNnn w))
  else if fieldOp w = 0x3#4 then .ok (.seImm (fieldX w) (fieldKk w))
  else if fieldOp w = 0x4#4 then .ok (.sneImm (fieldX w) (fieldKk w))
  else if fieldOp w = 0x5#4 then
    if fieldN w = 0x0#4 then .ok (.seReg (fieldX w) (fieldY w)) else .error (.group5 (fieldN w))
  else if fieldOp w = 0x6#4 then .ok (.ldImm (fieldX w) (fieldKk w))
  else if fieldOp w = 0x7#4 then .ok (.addImm (fieldX w) (fieldKk w))
  else if fieldOp w = 0x8#4 then decodeGroup8 w
  else if fieldOp w = 0x9#4 then
    if fieldN w = 0x0#4 then .ok (.sneReg (fieldX w) (fieldY w)) else .error (.group9 (fieldN w))
  else if fieldOp w = 0xA#4 then .ok (.ldI (fieldNnn w))
  else if fieldOp w = 0xB#4 then .ok (.jpV0 (fieldNnn w))
  else if fieldOp w = 0xC#4 then .ok (.rnd (fieldX w) (fieldKk w))
  else if fieldOp w = 0xD#4 then .ok (.drw (fieldX w) (fieldY w) (fieldN w))
  else if fieldOp w = 0xE#4 then decodeGroupE w
  else decodeGroupF w

/-- The 16-bit word of two bytes, the one at the lower address more significant (R63, R91). -/
def wordOfBytes (hi lo : Byte) : Word := hi ++ lo

/-- The decoder on bytes: the first two are the instruction, the rest is handed on (R91). -/
def decode : List Byte → Except DecodeError (Instr × List Byte)
  | hi :: lo :: rest => (decodeWord (wordOfBytes hi lo)).map fun i => (i, rest)
  | [_] => .error .truncated
  | [] => .error .truncated

/-! ### Encoding (R92, R96) -/

/-- Format NNN. -/
def wordNnn (op : Nibble) (nnn : Addr12) : Word := op ++ nnn

/-- Formats XKK and XFN: in XFN the low byte is the function code. -/
def wordXkk (op : Nibble) (x : Reg) (kk : Byte) : Word := op ++ x ++ kk

/-- Format XYN: in groups 5, 8 and 9 the low digit is the sub-opcode. -/
def wordXyn (op : Nibble) (x y : Reg) (n : Nibble) : Word := op ++ x ++ y ++ n

/-- The word of an instruction (R92, R96). -/
def encode : Instr → Word
  | .cls => 0x00E0#16
  | .ret => 0x00EE#16
  | .sys nnn => wordNnn 0x0#4 nnn
  | .jp nnn => wordNnn 0x1#4 nnn
  | .call nnn => wordNnn 0x2#4 nnn
  | .seImm x kk => wordXkk 0x3#4 x kk
  | .sneImm x kk => wordXkk 0x4#4 x kk
  | .seReg x y => wordXyn 0x5#4 x y 0x0#4
  | .ldImm x kk => wordXkk 0x6#4 x kk
  | .addImm x kk => wordXkk 0x7#4 x kk
  | .ldReg x y => wordXyn 0x8#4 x y 0x0#4
  | .orReg x y => wordXyn 0x8#4 x y 0x1#4
  | .andReg x y => wordXyn 0x8#4 x y 0x2#4
  | .xorReg x y => wordXyn 0x8#4 x y 0x3#4
  | .addReg x y => wordXyn 0x8#4 x y 0x4#4
  | .subReg x y => wordXyn 0x8#4 x y 0x5#4
  | .shr x y => wordXyn 0x8#4 x y 0x6#4
  | .subnReg x y => wordXyn 0x8#4 x y 0x7#4
  | .shl x y => wordXyn 0x8#4 x y 0xE#4
  | .sneReg x y => wordXyn 0x9#4 x y 0x0#4
  | .ldI nnn => wordNnn 0xA#4 nnn
  | .jpV0 nnn => wordNnn 0xB#4 nnn
  | .rnd x kk => wordXkk 0xC#4 x kk
  | .drw x y n => wordXyn 0xD#4 x y n
  | .skp x => wordXkk 0xE#4 x 0x9E#8
  | .sknp x => wordXkk 0xE#4 x 0xA1#8
  | .ldVxDt x => wordXkk 0xF#4 x 0x07#8
  | .ldVxK x => wordXkk 0xF#4 x 0x0A#8
  | .ldDtVx x => wordXkk 0xF#4 x 0x15#8
  | .ldStVx x => wordXkk 0xF#4 x 0x18#8
  | .addI x => wordXkk 0xF#4 x 0x1E#8
  | .ldF x => wordXkk 0xF#4 x 0x29#8
  | .ldB x => wordXkk 0xF#4 x 0x33#8
  | .storeRegs x => wordXkk 0xF#4 x 0x55#8
  | .loadRegs x => wordXkk 0xF#4 x 0x65#8

/-- word[15:8], the byte at the lower address (R63). -/
def highByte (w : Word) : Byte := w.extractLsb' 8 8

/-- word[7:0], the byte at the higher address (R63). -/
def lowByte (w : Word) : Byte := w.extractLsb' 0 8

/-- A word as the hardware stores it: big-endian (R63, R91). -/
def bytesOfWord (w : Word) : List Byte := [highByte w, lowByte w]

/-- The bytes of an instruction in the order of their addresses. -/
def encodeBytes (i : Instr) : List Byte := bytesOfWord (encode i)

/-! ### The opcode map (R96) -/

/-- A row of R96: a word w selects it when (w & mask) = value. -/
structure OpcodeRow where
  /-- the row's mnemonic as spec/opcode_table.json spells it -/
  mnemonic : String
  mask : Word
  value : Word
  deriving DecidableEq, Repr

/-- The row's pattern matches the word (R95, R96). -/
def OpcodeRow.hit (r : OpcodeRow) (w : Word) : Bool := w &&& r.mask == r.value

/-- The 35 rows of R96 in the table's order, which puts `00E0` and `00EE` before `0nnn` (R95). -/
def opcodeMap : List OpcodeRow :=
  [⟨"CLS", 0xFFFF#16, 0x00E0#16⟩, ⟨"RET", 0xFFFF#16, 0x00EE#16⟩, ⟨"SYS_nnn", 0xF000#16, 0x0000#16⟩,
    ⟨"JP_nnn", 0xF000#16, 0x1000#16⟩, ⟨"CALL_nnn", 0xF000#16, 0x2000#16⟩] ++
  [⟨"SE_Vx__kk", 0xF000#16, 0x3000#16⟩, ⟨"SNE_Vx__kk", 0xF000#16, 0x4000#16⟩, ⟨"SE_Vx__Vy", 0xF00F#16, 0x5000#16⟩,
    ⟨"LD_Vx__kk", 0xF000#16, 0x6000#16⟩, ⟨"ADD_Vx__kk", 0xF000#16, 0x7000#16⟩] ++
  [⟨"LD_Vx__Vy", 0xF00F#16, 0x8000#16⟩, ⟨"OR_Vx__Vy", 0xF00F#16, 0x8001#16⟩, ⟨"AND_Vx__Vy", 0xF00F#16, 0x8002#16⟩,
    ⟨"XOR_Vx__Vy", 0xF00F#16, 0x8003#16⟩, ⟨"ADD_Vx__Vy", 0xF00F#16, 0x8004#16⟩, ⟨"SUB_Vx__Vy", 0xF00F#16, 0x8005#16⟩,
    ⟨"SHR_Vx____Vy", 0xF00F#16, 0x8006#16⟩, ⟨"SUBN_Vx__Vy", 0xF00F#16, 0x8007#16⟩, ⟨"SHL_Vx____Vy", 0xF00F#16, 0x800E#16⟩] ++
  [⟨"SNE_Vx__Vy", 0xF00F#16, 0x9000#16⟩, ⟨"LD_I__nnn", 0xF000#16, 0xA000#16⟩, ⟨"JP_V0__nnn", 0xF000#16, 0xB000#16⟩,
    ⟨"RND_Vx__kk", 0xF000#16, 0xC000#16⟩, ⟨"DRW_Vx__Vy__n", 0xF000#16, 0xD000#16⟩, ⟨"SKP_Vx", 0xF0FF#16, 0xE09E#16⟩,
    ⟨"SKNP_Vx", 0xF0FF#16, 0xE0A1#16⟩] ++
  [⟨"LD_Vx__DT", 0xF0FF#16, 0xF007#16⟩, ⟨"LD_Vx__K", 0xF0FF#16, 0xF00A#16⟩, ⟨"LD_DT__Vx", 0xF0FF#16, 0xF015#16⟩,
    ⟨"LD_ST__Vx", 0xF0FF#16, 0xF018#16⟩, ⟨"ADD_I__Vx", 0xF0FF#16, 0xF01E#16⟩, ⟨"LD_F__Vx", 0xF0FF#16, 0xF029#16⟩,
    ⟨"LD_B__Vx", 0xF0FF#16, 0xF033#16⟩, ⟨"LD__I___Vx", 0xF0FF#16, 0xF055#16⟩, ⟨"LD_Vx___I", 0xF0FF#16, 0xF065#16⟩]

/-- The row of the opcode table that an instruction comes from. -/
def Instr.mnemonic : Instr → String
  | .cls => "CLS"
  | .ret => "RET"
  | .sys _ => "SYS_nnn"
  | .jp _ => "JP_nnn"
  | .call _ => "CALL_nnn"
  | .seImm _ _ => "SE_Vx__kk"
  | .sneImm _ _ => "SNE_Vx__kk"
  | .seReg _ _ => "SE_Vx__Vy"
  | .ldImm _ _ => "LD_Vx__kk"
  | .addImm _ _ => "ADD_Vx__kk"
  | .ldReg _ _ => "LD_Vx__Vy"
  | .orReg _ _ => "OR_Vx__Vy"
  | .andReg _ _ => "AND_Vx__Vy"
  | .xorReg _ _ => "XOR_Vx__Vy"
  | .addReg _ _ => "ADD_Vx__Vy"
  | .subReg _ _ => "SUB_Vx__Vy"
  | .shr _ _ => "SHR_Vx____Vy"
  | .subnReg _ _ => "SUBN_Vx__Vy"
  | .shl _ _ => "SHL_Vx____Vy"
  | .sneReg _ _ => "SNE_Vx__Vy"
  | .ldI _ => "LD_I__nnn"
  | .jpV0 _ => "JP_V0__nnn"
  | .rnd _ _ => "RND_Vx__kk"
  | .drw _ _ _ => "DRW_Vx__Vy__n"
  | .skp _ => "SKP_Vx"
  | .sknp _ => "SKNP_Vx"
  | .ldVxDt _ => "LD_Vx__DT"
  | .ldVxK _ => "LD_Vx__K"
  | .ldDtVx _ => "LD_DT__Vx"
  | .ldStVx _ => "LD_ST__Vx"
  | .addI _ => "ADD_I__Vx"
  | .ldF _ => "LD_F__Vx"
  | .ldB _ => "LD_B__Vx"
  | .storeRegs _ => "LD__I___Vx"
  | .loadRegs _ => "LD_Vx___I"

/-! ### The host's view of the decoder -/

/-- The word of `nbits` bits of an opcode-table row, bit 0 its least significant, every bit above them 0. -/
def wordOfTable (nbits w : Nat) : Word := BitVec.ofNat 16 (w % 2 ^ nbits)

/-- The instruction that the decoder reads from a word of the opcode table, laid out big-endian as the hardware stores it. -/
def decodeTableWord (nbits w : Nat) : Option Instr :=
  match decode (bytesOfWord (wordOfTable nbits w)) with
  | .ok (i, _) => some i
  | .error _ => none

end Sys2Proof
end

