-- ==== Sys2Proof/Config.lean ====
section
/-! DEFINITION. What is fixed for a machine before `RESET` (spec/00_scope.md R9, R10, spec/10_state.md R38), and the one
free value of the model (spec/10_state.md R36). The default values are in Machine/Params.lean. -/

namespace Sys2Proof

/-- The parameters of the model (R9, R10, R38). DESIGN CHOICE (log entry 2), safe: the record is carried in `State`, so that
`exec` takes it as an argument and every statement over all states covers every setting; no event changes it. -/
structure Config where
  /-- `CFG_BORROW_STRICT`: the no-borrow flag of `8xy5`, `8xy7` is strict (R148, R150). -/
  borrowStrict : Bool
  /-- `CFG_SHIFT_SRC_VY`: `8xy6`, `8xyE` shift Vy into Vx (R149, R151). -/
  shiftSrcVy : Bool
  /-- `CFG_LEGACY_I_INC`: `Fx55`, `Fx65` advance I by x + 1 (R175, R176). -/
  legacyIInc : Bool
  /-- `CFG_DECODE_SKIP`: an unknown opcode is reported and skipped (R222). -/
  decodeSkip : Bool
  /-- `FONT`: the 80 bytes at 0x000 to 0x04F after `RESET` (R29). -/
  font : Vector Byte 80
  /-- `MEM_INIT`: every other byte after `RESET` (R9, R40). -/
  memInit : Byte
  deriving DecidableEq, Repr

/-- The random byte of the k-th `Cxkk` (R19, R36): a FREE VALUE. It has no body: nothing is known of it, neither a law nor a
value (log entry 4), safe. -/
opaque Config.rnd : Nat → Byte

end Sys2Proof
end

