-- ==== Sys2Proof/Machine/Params.lean ====
section
/-! DEFINITION. The reset contents of memory, and the default values of the parameters (spec/00_scope.md R9, R10,
spec/10_state.md R29): DESIGN CHOICE, since the spec leaves each open as a parameter and names a default (log entry 3). -/

namespace Sys2Proof

/-- The byte that `RESET` puts at address `a` (R40, R61): what an address that the model's memory list does not name reads
as. -/
def Config.resetByte (c : Config) (a : Nat) : Byte :=
  if h : a < 80 then c.font[a] else c.memInit

end Sys2Proof

namespace Sys2Proof.Machine

/-- The 16 glyphs of R29, five bytes each, top row first: the conventional font, which the spec marks as general knowledge
(D24). -/
def defaultGlyphs : List (List Byte) :=
  [[0xF0, 0x90, 0x90, 0x90, 0xF0], [0x20, 0x60, 0x20, 0x20, 0x70], [0xF0, 0x10, 0xF0, 0x80, 0xF0], [0xF0, 0x10, 0xF0, 0x10, 0xF0],
    [0x90, 0x90, 0xF0, 0x10, 0x10], [0xF0, 0x80, 0xF0, 0x10, 0xF0], [0xF0, 0x80, 0xF0, 0x90, 0xF0], [0xF0, 0x10, 0x20, 0x40, 0x40]] ++
  [[0xF0, 0x90, 0xF0, 0x90, 0xF0], [0xF0, 0x90, 0xF0, 0x10, 0xF0], [0xF0, 0x90, 0xF0, 0x90, 0x90], [0xE0, 0x90, 0xE0, 0x90, 0xE0],
    [0xF0, 0x80, 0x80, 0x80, 0xF0], [0xE0, 0x90, 0x90, 0x90, 0xE0], [0xF0, 0x80, 0xF0, 0x80, 0xF0], [0xF0, 0x80, 0xF0, 0x80, 0x80]]

/-- The font table FONT[0..79] (R29). -/
def defaultFont : Vector Byte 80 := ⟨defaultGlyphs.flatten.toArray, rfl⟩

/-- The default setting of every parameter (R9, R10): the four flags 0, the conventional font, `MEM_INIT` 0x00. -/
def defaultConfig : Config :=
  { borrowStrict := false, shiftSrcVy := false, legacyIInc := false, decodeSkip := false, font := defaultFont, memInit := 0x00 }

end Sys2Proof.Machine
end

