-- ==== Sys2Proof/Machine/State.lean ====
section
/-! DEFINITION. The state of the CORE (spec/10_state.md), the reasons a step can stop, and the state after `RESET`. -/

namespace Sys2Proof.Machine

/-- MEM (R28, R60): the bytes that differ from the reset contents, addresses strictly rising (`Memory.wf` in Ops.lean); an
address that is not listed reads as `Config.resetByte`. -/
abbrev Memory := List Host.Cell

/-- FB (R37): 32 rows of 64 one-bit pixels. Bit c of row r is the pixel in column c, 1 is on (log entry 16); `pixel` in Ops.lean
is the spec's FB[r][c]. -/
abbrev Framebuffer := Vector (BitVec 64) 32

/-- The causes of an error (spec/60_exceptions.md R220). An error is a next state, not a stop: the error entry is
`State.raise` in Ops.lean. -/
inductive Cause where
  | decode
  | stackOverflow
  | stackUnderflow
  | operandRange
  | memBounds
  | fetchBounds
  deriving DecidableEq, Repr

/-- Every piece of state the spec gives the machine (R20 to R39), then the model's own two fields. -/
structure State where
  /-- V0 to VF (R20) -/
  v : Vector Byte 16
  /-- I (R23) -/
  i : Word
  /-- PC (R24) -/
  pc : Word
  /-- SP, the number of return addresses on the stack, 0 to 16 (R25) -/
  sp : Fin 17
  /-- STACK[0] to STACK[15] (R25) -/
  stack : Vector Word 16
  /-- the delay timer DT (R26) -/
  dt : Byte
  /-- the sound timer ST (R27) -/
  st : Byte
  /-- MEM (R28) -/
  mem : Memory
  /-- FB (R37) -/
  fb : Framebuffer
  /-- DIRTY (R30) -/
  dirty : Bool
  /-- HALTED (R31) -/
  halted : Bool
  /-- STATUS, a cause code (R32, R220) -/
  status : BitVec 3
  /-- ERR_SEEN (R34) -/
  errSeen : Bool
  /-- ERR_PC (R34) -/
  errPc : Word
  /-- ERR_INSN (R34) -/
  errInsn : Word
  /-- AWAIT (R33) -/
  awaiting : Bool
  /-- KEY_PREV (R33) -/
  keyPrev : Word
  /-- KEY, bit k for key k (R35) -/
  key : Word
  /-- the model's own: the parameters of R38, which no event changes (log entry 2) -/
  cfg : Config
  /-- the model's own: how many random bytes have been drawn, the argument of `Config.rnd` (log entry 4) -/
  draws : Nat
  deriving DecidableEq, Repr

/-- Why a step stops with a fault: never. Every error of the spec is recorded in the state and the machine goes on answering
steps (R90, R229), so there is no constructor (log entry 6); safe, since a machine that never stops hides nothing. -/
inductive Fault where
  deriving DecidableEq, Repr

/-- Why an instruction or a run is refused. The last two are raised by `machineRun` of Events.lean alone, never by `exec` or
`step`: the spec asks a model to give such a run no meaning (spec/93_implementation_defined.md U16, U24). -/
inductive Refusal where
  /-- an instruction with no meaning yet, raised by its arm of `exec` only; no arm of this model does (safe) -/
  | notModelled (mnemonic : String)
  /-- a run whose first event is not `RESET` (spec/70_reset_and_hazards.md R261); raised by `machineRun`; safe -/
  | beforeReset
  /-- a `STEP` of a run whose `LOAD` was rejected, so that there is no program (U24, log entry 17); raised by `machineRun`; safe -/
  | loadRejected
  deriving DecidableEq, Repr

/-- The state that `RESET` leaves in a machine with parameters `c` whose next random byte is number `draws` (R40,
spec/70_reset_and_hazards.md R260). The zeros that the source does not give are the spec's decision D23 (log entry 5). -/
def State.resetWith (c : Config) (draws : Nat) : State :=
  { v := Vector.replicate 16 0x00
    i := 0x0000
    pc := 0x0200
    sp := 0
    stack := Vector.replicate 16 0x0000
    dt := 0x00
    st := 0x00
    mem := []
    fb := Vector.replicate 32 0
    dirty := false
    halted := false
    status := 0
    errSeen := false
    errPc := 0x0000
    errInsn := 0x0000
    awaiting := false
    keyPrev := 0x0000
    key := 0x0000
    cfg := c
    draws := draws }

/-- The machine right after `RESET` with the default parameters (R9, R10, R40). -/
def State.reset : State := State.resetWith defaultConfig 0

end Sys2Proof.Machine
end

