-- ==== Sys2Proof/Machine/Ops.lean ====
section
/-! DEFINITION. The named operations over memory, registers, the call stack, the framebuffer and the program counter, and the
one error entry. There is no return from an error: only `RESET` leaves HALTED (spec/60_exceptions.md R233). -/

namespace Sys2Proof.Machine

/-! ### Memory (spec/20_memory.md). `dflt a` is what an unlisted address `a` reads as. -/

/-- The last address of the memory space (R60). -/
abbrev memTop : Nat := 0xFFF

/-- The byte at an address (R71). -/
def Memory.read (dflt : Nat → Byte) : Memory → Nat → Byte
  | [], a => dflt a
  | c :: m, a => if c.1 = a then c.2 else Memory.read dflt m a

/-- Put a byte where the rising order of addresses wants it. -/
def Memory.insert (a : Nat) (b : Byte) : Memory → Memory
  | [] => [(a, b)]
  | c :: m => if a < c.1 then (a, b) :: c :: m else c :: Memory.insert a b m

/-- The list without the entries of an address. -/
def Memory.erase (a : Nat) : Memory → Memory
  | [] => []
  | c :: m => if c.1 = a then Memory.erase a m else c :: Memory.erase a m

/-- Store a byte (R71): that byte changes and nothing else. An address that comes to hold its reset contents is not listed. -/
def Memory.write (dflt : Nat → Byte) (m : Memory) (a : Nat) (b : Byte) : Memory :=
  if b = dflt a then Memory.erase a m else Memory.insert a b (Memory.erase a m)

/-- The canonical form: addresses strictly rising from `low`, none above 0xFFF, no entry equal to what an unlisted address
reads as. -/
def Memory.wfFrom (dflt : Nat → Byte) : Nat → Memory → Bool
  | _, [] => true
  | low, c :: m => decide (low ≤ c.1) && decide (c.1 ≤ memTop) && (c.2 != dflt c.1) && Memory.wfFrom dflt (c.1 + 1) m

/-- The canonical form of a whole memory. -/
def Memory.wf (dflt : Nat → Byte) (m : Memory) : Bool := Memory.wfFrom dflt 0 m

/-- `MemRead(addr, 1)` inside the space (spec/00_scope.md R15). The bound of R66 is checked by each instruction before its
first access (`beyondMemory`); no instruction calls this above 0xFFF (log entry 10). -/
def State.readByte (s : State) (a : Nat) : Byte := s.mem.read s.cfg.resetByte a

/-- `MemWrite(addr, 1, v)` inside the space (R15). -/
def State.writeByte (s : State) (a : Nat) (b : Byte) : State :=
  { s with mem := s.mem.write s.cfg.resetByte a b }

/-- The last address of an access lies above 0xFFF (R66). Addresses are unbounded integers (R68). -/
def beyondMemory (last : Nat) : Bool := decide (memTop < last)

/-- Store bytes at ascending addresses (R64, R72). -/
def State.storeBytes (s : State) (a : Nat) : List Byte → State
  | [] => s
  | b :: bs => (s.writeByte a b).storeBytes (a + 1) bs

/-! ### General registers (spec/10_state.md R20) -/

/-- `V[x]`. -/
def State.reg (s : State) (x : Reg) : Byte := s.v[x.toNat]

/-- `V[x] <- b`. -/
def State.setReg (s : State) (x : Reg) (b : Byte) : State := { s with v := s.v.set x.toNat b }

/-- VF, register 15 (R21). -/
def vf : Reg := 0xF#4

/-- `V[15] <- flag`, then `V[x] <- result` (R22): with x = 15 the result stands. -/
def State.setFlagThenReg (s : State) (x : Reg) (flag result : Byte) : State := (s.setReg vf flag).setReg x result

/-- V0 to V[count - 1] in order. -/
def State.regsBelow (s : State) (count : Nat) : List Byte := (List.range count).map fun k => s.reg (BitVec.ofNat 4 k)

/-- `V[i] <- MemRead(a + i, 1)` for i from 0 to count - 1, ascending (spec/42_index_memory.md R176). -/
def State.loadRegsBelow (s : State) (a : Nat) : Nat → State
  | 0 => s
  | k + 1 => (s.loadRegsBelow a k).setReg (BitVec.ofNat 4 k) ((s.loadRegsBelow a k).readByte (a + k))

/-! ### I, PC and the timers (R23, R24, R26, R27) -/

/-- `I <- w`. -/
def State.setI (s : State) (w : Word) : State := { s with i := w }

/-- `PC <- w`. -/
def State.setPc (s : State) (w : Word) : State := { s with pc := w }

/-- "Advance", `PC <- (PC + 2) mod 2^16` (spec/00_scope.md R17). -/
def State.advance (s : State) : State := s.setPc (s.pc + 2)

/-- "Skip", `PC <- (PC + 4) mod 2^16` (R17). -/
def State.skip (s : State) : State := s.setPc (s.pc + 4)

/-- Skip the next instruction when the condition holds, else advance (spec/40_control_flow.md R120). -/
def State.skipIf (s : State) (cond : Bool) : State := if cond then s.skip else s.advance

/-- `DT <- b`. -/
def State.setDt (s : State) (b : Byte) : State := { s with dt := b }

/-- `ST <- b`. -/
def State.setSt (s : State) (b : Byte) : State := { s with st := b }

/-! ### The call stack (R25) -/

/-- `STACK[SP] <- w; SP <- SP + 1`, or `none` when 16 return addresses are stacked (R124). -/
def State.push (s : State) (w : Word) : Option State :=
  if h : s.sp.val < 16 then
    some { s with stack := s.stack.set s.sp.val w h, sp := ⟨s.sp.val + 1, by omega⟩ }
  else none

/-- `SP <- SP - 1` and the slot just vacated, which keeps its value (R25, R122), or `none` when the stack is empty. -/
def State.pop (s : State) : Option (Word × State) :=
  if h : s.sp.val = 0 then none
  else some (s.stack[s.sp.val - 1]'(by omega), { s with sp := ⟨s.sp.val - 1, by omega⟩ })

/-! ### The framebuffer (R37, spec/43_display.md R190) -/

/-- `FB[r][c]`. -/
def pixel (f : Framebuffer) (r : Fin 32) (c : Fin 64) : Bool := f[r].getLsbD c

/-- The framebuffer with every pixel off. -/
def blankScreen : Framebuffer := Vector.replicate 32 0

/-- Exclusive or of a row of pixels into row `r` of the screen, and whether a pixel of that row went from on to off: one was on
under a 1 (R192). -/
def xorRow (f : Framebuffer) (r : Fin 32) (bits : BitVec 64) : Framebuffer × Bool :=
  (f.set r (f[r] ^^^ bits), f[r] &&& bits != 0)

/-- `FB <- f; DIRTY <- 1` (R191, R192). -/
def State.setScreen (s : State) (f : Framebuffer) : State := { s with fb := f, dirty := true }

/-! ### The key wait and the random byte (R33, R36) -/

/-- `AWAIT <- a; KEY_PREV <- k`. -/
def State.setWait (s : State) (a : Bool) (k : Word) : State := { s with awaiting := a, keyPrev := k }

/-- `RND()` (spec/00_scope.md R19): the free byte of this draw. -/
def State.randomByte (s : State) : Byte := Config.rnd s.draws

/-- A random byte has been drawn: the next draw is another one (R36). -/
def State.countDraw (s : State) : State := { s with draws := s.draws + 1 }

/-! ### Errors (spec/60_exceptions.md) -/

/-- The STATUS code of a cause (R220). -/
def Cause.code : Cause → BitVec 3
  | .decode => 1
  | .stackOverflow => 2
  | .stackUnderflow => 3
  | .operandRange => 4
  | .memBounds => 5
  | .fetchBounds => 6

/-- What ERR_INSN records: the fetched word, and 0x0000 where none was fetched (R227, R229). -/
def Cause.recordedWord (c : Cause) (w : Word) : Word :=
  match c with
  | .fetchBounds => 0x0000
  | .decode => w
  | .stackOverflow => w
  | .stackUnderflow => w
  | .operandRange => w
  | .memBounds => w

/-- The one cause after which the core runs on: an unknown opcode under `CFG_DECODE_SKIP` (R222, R229). -/
def Cause.skips (c : Cause) (cfg : Config) : Bool := decide (c = .decode) && cfg.decodeSkip

/-- THE ERROR ENTRY (R229): `raise c` in a step whose fetched word is `w`. -/
def State.raise (s : State) (c : Cause) (w : Word) : State :=
  { s with
    status := c.code
    errSeen := true
    errPc := s.pc
    errInsn := c.recordedWord w
    pc := if c.skips s.cfg then s.pc + 2 else s.pc
    halted := if c.skips s.cfg then s.halted else true }

/-- An instruction ends its step with an error: the fetched word is the instruction's own word (log entry 7). -/
def raised (c : Cause) (i : Instr) (s : State) : Host.Outcome State Fault Refusal := .next (s.raise c (encode i))

end Sys2Proof.Machine
end

