-- ==== Sys2Proof/Machine/Operands.lean ====
section
/-! DEFINITION. Every operand form of the ISA (spec/30_encoding.md R94, spec/42_index_memory.md R170): immediates as they
stand, the base I plus a small offset, the implicit V0, the shift source, the decimal digits, the glyph address, the key
index and the fresh keys. Register operands are `State.reg` and `State.setReg` of Ops.lean. -/

namespace Sys2Proof.Machine

/-- `nnn` in a 16-bit register: 0x0nnn (R94). -/
def immNnn (nnn : Addr12) : Word := nnn.setWidth 16

/-- A byte in 16-bit arithmetic, zero-extended (R12, R94). -/
def wide (b : Byte) : Word := b.setWidth 16

/-- The effective address I + offset, an unbounded integer (spec/20_memory.md R68). -/
def State.effAddr (s : State) (offset : Nat) : Nat := s.i.toNat + offset

/-- The target of `Bnnn`: nnn + V0, not cut to 12 bits (spec/40_control_flow.md R129). -/
def State.v0Target (s : State) (nnn : Addr12) : Word := immNnn nnn + wide (s.reg 0x0#4)

/-- The register that the shifts read: Vx, or Vy under `CFG_SHIFT_SRC_VY` (spec/41_load_alu.md R149, R151). -/
def State.shiftSource (s : State) (x y : Reg) : Byte := if s.cfg.shiftSrcVy then s.reg y else s.reg x

/-- The decimal digits of a byte, hundreds, tens, ones (R174). -/
def decimalDigits (b : Byte) : List Byte :=
  [BitVec.ofNat 8 (b.toNat / 100), BitVec.ofNat 8 (b.toNat / 10 % 10), BitVec.ofNat 8 (b.toNat % 10)]

/-- The operand names no glyph and no key: it is above 0xF and is not masked (R173, spec/44_keys_timers.md R201). -/
def outOfRange (b : Byte) : Bool := decide (0x0F < b.toNat)

/-- The address of a glyph, Vx * 5, FONT_BASE being 0x000 (R173). -/
def glyphAddr (b : Byte) : Word := wide b * 5

/-- Key `k` is held (spec/10_state.md R35). -/
def keyHeld (keys : Word) (k : Nat) : Bool := keys.getLsbD k

/-- The keys held now and not at the previous attempt (R204). -/
def State.freshKeys (s : State) : Word := s.key &&& ~~~s.keyPrev

/-- The least k in 0..15 whose bit is 1, if there is one (R204). -/
def lowestKey (keys : Word) : Option Nat := (List.range 16).find? fun k => keyHeld keys k

/-- I after `Fx55` and `Fx65`: I + x + 1 modulo 2^16 under `CFG_LEGACY_I_INC`, else I (R175, R176). -/
def State.indexAfterBulk (s : State) (x : Reg) : Word :=
  if s.cfg.legacyIInc then s.i + x.setWidth 16 + 1 else s.i

end Sys2Proof.Machine
end

