-- ==== Sys2Proof/Machine/Flags.lean ====
section
/-! DEFINITION. Every flag computation: what the seven flag-writing instructions put into VF (spec/10_state.md R21). The value
is always 0 or 1. -/

namespace Sys2Proof.Machine

/-- A flag as the register value 1 or 0 (R21). -/
def flagByte (b : Bool) : Byte := if b then 1 else 0

/-- Carry of `8xy4`: the true sum exceeds 255 (spec/41_load_alu.md R147). -/
def carryFlag (a b : Byte) : Byte := flagByte (decide (255 < a.toNat + b.toNat))

/-- No borrow in a - b: a >= b, or a > b under `CFG_BORROW_STRICT` (R140, R148, R150). -/
def noBorrowFlag (cfg : Config) (a b : Byte) : Byte :=
  flagByte (if cfg.borrowStrict then decide (b.toNat < a.toNat) else decide (b.toNat ≤ a.toNat))

/-- The bit a right shift puts out, bit 0 (R149). -/
def shiftRightFlag (b : Byte) : Byte := flagByte (b.getLsbD 0)

/-- The bit a left shift puts out, bit 7 (R151). -/
def shiftLeftFlag (b : Byte) : Byte := flagByte (b.getLsbD 7)

/-- Overflow of `Fx1E`: the true sum lies above 0xFFF (spec/42_index_memory.md R172). -/
def indexFlag (i : Word) (b : Byte) : Byte := flagByte (decide (0xFFF < i.toNat + b.toNat))

/-- Collision of `Dxyn` (spec/43_display.md R192). -/
def collisionFlag (hit : Bool) : Byte := flagByte hit

end Sys2Proof.Machine
end

