-- ==== Sys2Proof/Machine/ControlFlow.lean ====
section
/-! DEFINITION. Control transfer: jumps, call, return and skips (spec/40_control_flow.md). -/

namespace Sys2Proof.Machine

/-- `0nnn` (R121): executed as a jump. -/
def execSys (nnn : Addr12) (s : State) : Host.Outcome State Fault Refusal := .next (s.setPc (immNnn nnn))

/-- `00EE` (R122). -/
def execRet (s : State) : Host.Outcome State Fault Refusal :=
  match s.pop with
  | none => raised .stackUnderflow .ret s
  | some (target, t) => .next (t.setPc target)

/-- `1nnn` (R123). -/
def execJp (nnn : Addr12) (s : State) : Host.Outcome State Fault Refusal := .next (s.setPc (immNnn nnn))

/-- `2nnn` (R124). -/
def execCall (nnn : Addr12) (s : State) : Host.Outcome State Fault Refusal :=
  match s.push (s.pc + 2) with
  | none => raised .stackOverflow (.call nnn) s
  | some t => .next (t.setPc (immNnn nnn))

/-- `3xkk` (R125). -/
def execSeImm (x : Reg) (kk : Byte) (s : State) : Host.Outcome State Fault Refusal :=
  .next (s.skipIf (s.reg x == kk))

/-- `4xkk` (R126). -/
def execSneImm (x : Reg) (kk : Byte) (s : State) : Host.Outcome State Fault Refusal :=
  .next (s.skipIf (s.reg x != kk))

/-- `5xy0` (R127). -/
def execSeReg (x y : Reg) (s : State) : Host.Outcome State Fault Refusal :=
  .next (s.skipIf (s.reg x == s.reg y))

/-- `9xy0` (R128). -/
def execSneReg (x y : Reg) (s : State) : Host.Outcome State Fault Refusal :=
  .next (s.skipIf (s.reg x != s.reg y))

/-- `Bnnn` (R129). -/
def execJpV0 (nnn : Addr12) (s : State) : Host.Outcome State Fault Refusal := .next (s.setPc (s.v0Target nnn))

end Sys2Proof.Machine
end

