-- ==== Sys2Proof/Machine/Display.lean ====
section
/-! DEFINITION. The framebuffer controller: clear and sprite draw (spec/43_display.md). -/

namespace Sys2Proof.Machine

/-- `00E0` (R191). -/
def execCls (s : State) : Host.Outcome State Fault Refusal := .next (s.setScreen blankScreen).advance

/-- The pixels of a screen row under the 1 bits among the first `count` bits of a sprite byte, most significant first, bit k on
column (vx + k) mod 64 (R192). -/
def spriteBits (vx : Nat) (b : Byte) : Nat → BitVec 64
  | 0 => 0
  | k + 1 => spriteBits vx b k ||| if b.getLsbD (7 - k) then BitVec.twoPow 64 ((vx + k) % 64) else 0

/-- The first `count` rows of the sprite at I, row k on row (vy + k) mod 32 of the screen, and whether a pixel collided in any
of them (R192). -/
def State.drawRows (s : State) (vx vy : Nat) : Nat → Framebuffer × Bool
  | 0 => (s.fb, false)
  | k + 1 =>
    match s.drawRows vx vy k with
    | (f, hit) =>
      match xorRow f (Fin.ofNat 32 (vy + k)) (spriteBits vx (s.readByte (s.effAddr k)) 8) with
      | (f', hit') => (f', hit || hit')

/-- `Dxyn` (R192): n = 0 draws nothing and checks no bound. -/
def execDrw (x y : Reg) (n : Nibble) (s : State) : Host.Outcome State Fault Refusal :=
  if n.toNat > 0 && beyondMemory (s.effAddr (n.toNat - 1)) then raised .memBounds (.drw x y n) s
  else
    let drawn := s.drawRows (s.reg x).toNat (s.reg y).toNat n.toNat
    .next ((s.setScreen drawn.1).setReg vf (collisionFlag drawn.2)).advance

end Sys2Proof.Machine
end

