-- ==== Sys2Proof/Machine/IndexMemory.lean ====
section
/-! DEFINITION. Index register and memory instructions (spec/42_index_memory.md). The last address of an access is checked
before anything is read or written (spec/20_memory.md R66). -/

namespace Sys2Proof.Machine

/-- `Annn` (R171). -/
def execLdI (nnn : Addr12) (s : State) : Host.Outcome State Fault Refusal := .next (s.setI (immNnn nnn)).advance

/-- `Fx1E` (R172): the destination is I, so the flag stands with x = 15 too. -/
def execAddI (x : Reg) (s : State) : Host.Outcome State Fault Refusal :=
  .next ((s.setI (s.i + wide (s.reg x))).setReg vf (indexFlag s.i (s.reg x))).advance

/-- `Fx29` (R173). -/
def execLdF (x : Reg) (s : State) : Host.Outcome State Fault Refusal :=
  if outOfRange (s.reg x) then raised .operandRange (.ldF x) s
  else .next (s.setI (glyphAddr (s.reg x))).advance

/-- `Fx33` (R174). -/
def execLdB (x : Reg) (s : State) : Host.Outcome State Fault Refusal :=
  if beyondMemory (s.effAddr 2) then raised .memBounds (.ldB x) s
  else .next (s.storeBytes (s.effAddr 0) (decimalDigits (s.reg x))).advance

/-- `Fx55` (R175). -/
def execStoreRegs (x : Reg) (s : State) : Host.Outcome State Fault Refusal :=
  if beyondMemory (s.effAddr x.toNat) then raised .memBounds (.storeRegs x) s
  else .next ((s.storeBytes (s.effAddr 0) (s.regsBelow (x.toNat + 1))).setI (s.indexAfterBulk x)).advance

/-- `Fx65` (R176). -/
def execLoadRegs (x : Reg) (s : State) : Host.Outcome State Fault Refusal :=
  if beyondMemory (s.effAddr x.toNat) then raised .memBounds (.loadRegs x) s
  else .next ((s.loadRegsBelow (s.effAddr 0) (x.toNat + 1)).setI (s.indexAfterBulk x)).advance

end Sys2Proof.Machine
end

