-- ==== Sys2Proof/Machine/KeysTimers.lean ====
section
/-! DEFINITION. Key and timer instructions (spec/44_keys_timers.md). -/

namespace Sys2Proof.Machine

/-- `Ex9E` (R201). -/
def execSkp (x : Reg) (s : State) : Host.Outcome State Fault Refusal :=
  if outOfRange (s.reg x) then raised .operandRange (.skp x) s
  else .next (s.skipIf (keyHeld s.key (s.reg x).toNat))

/-- `ExA1` (R202). -/
def execSknp (x : Reg) (s : State) : Host.Outcome State Fault Refusal :=
  if outOfRange (s.reg x) then raised .operandRange (.sknp x) s
  else .next (s.skipIf (!keyHeld s.key (s.reg x).toNat))

/-- `Fx07` (R203). -/
def execLdVxDt (x : Reg) (s : State) : Host.Outcome State Fault Refusal := .next (s.setReg x s.dt).advance

/-- `Fx0A` (R204): one attempt. The first arms and never completes; a later one completes when a key is held now that was not
at the previous attempt, and delivers the lowest such key; an attempt that does not complete leaves PC on the instruction. -/
def execLdVxK (x : Reg) (s : State) : Host.Outcome State Fault Refusal :=
  if s.awaiting then
    match lowestKey s.freshKeys with
    | some k => .next ((s.setReg x (BitVec.ofNat 8 k)).setWait false s.key).advance
    | none => .next (s.setWait true s.key)
  else .next (s.setWait true s.key)

/-- `Fx15` (R205). -/
def execLdDtVx (x : Reg) (s : State) : Host.Outcome State Fault Refusal := .next (s.setDt (s.reg x)).advance

/-- `Fx18` (R206). -/
def execLdStVx (x : Reg) (s : State) : Host.Outcome State Fault Refusal := .next (s.setSt (s.reg x)).advance

end Sys2Proof.Machine
end

