-- ==== Sys2Proof/Machine/LoadAlu.lean ====
section
/-! DEFINITION. Register load, arithmetic, logic, shift and random (spec/41_load_alu.md). Every operand is read from the state
before the instruction (spec/00_scope.md R18). -/

namespace Sys2Proof.Machine

/-- `6xkk` (R141). -/
def execLdImm (x : Reg) (kk : Byte) (s : State) : Host.Outcome State Fault Refusal := .next (s.setReg x kk).advance

/-- `7xkk` (R142): no flag. -/
def execAddImm (x : Reg) (kk : Byte) (s : State) : Host.Outcome State Fault Refusal :=
  .next (s.setReg x (s.reg x + kk)).advance

/-- `8xy0` (R143). -/
def execLdReg (x y : Reg) (s : State) : Host.Outcome State Fault Refusal := .next (s.setReg x (s.reg y)).advance

/-- `8xy1` (R144). -/
def execOrReg (x y : Reg) (s : State) : Host.Outcome State Fault Refusal :=
  .next (s.setReg x (s.reg x ||| s.reg y)).advance

/-- `8xy2` (R145). -/
def execAndReg (x y : Reg) (s : State) : Host.Outcome State Fault Refusal :=
  .next (s.setReg x (s.reg x &&& s.reg y)).advance

/-- `8xy3` (R146). -/
def execXorReg (x y : Reg) (s : State) : Host.Outcome State Fault Refusal :=
  .next (s.setReg x (s.reg x ^^^ s.reg y)).advance

/-- `8xy4` (R147). -/
def execAddReg (x y : Reg) (s : State) : Host.Outcome State Fault Refusal :=
  .next (s.setFlagThenReg x (carryFlag (s.reg x) (s.reg y)) (s.reg x + s.reg y)).advance

/-- `8xy5` (R148). -/
def execSubReg (x y : Reg) (s : State) : Host.Outcome State Fault Refusal :=
  .next (s.setFlagThenReg x (noBorrowFlag s.cfg (s.reg x) (s.reg y)) (s.reg x - s.reg y)).advance

/-- `8xy6` (R149). -/
def execShr (x y : Reg) (s : State) : Host.Outcome State Fault Refusal :=
  .next (s.setFlagThenReg x (shiftRightFlag (s.shiftSource x y)) (s.shiftSource x y >>> 1)).advance

/-- `8xy7` (R150). -/
def execSubnReg (x y : Reg) (s : State) : Host.Outcome State Fault Refusal :=
  .next (s.setFlagThenReg x (noBorrowFlag s.cfg (s.reg y) (s.reg x)) (s.reg y - s.reg x)).advance

/-- `8xyE` (R151). -/
def execShl (x y : Reg) (s : State) : Host.Outcome State Fault Refusal :=
  .next (s.setFlagThenReg x (shiftLeftFlag (s.shiftSource x y)) (s.shiftSource x y <<< 1)).advance

/-- `Cxkk` (R152): the byte is free (log entry 4). -/
def execRnd (x : Reg) (kk : Byte) (s : State) : Host.Outcome State Fault Refusal :=
  .next (s.countDraw.setReg x (s.randomByte &&& kk)).advance

end Sys2Proof.Machine
end

