-- ==== Sys2Proof/Machine/Cycle.lean ====
section
/-! DEFINITION. The instruction cycle (spec/30_encoding.md R90): what `STEP` does around `exec`, and where it fetches. -/

namespace Sys2Proof.Machine

/-- `DIRTY <- 0; STATUS <- 0` at the start of a step that is not halted (R90, spec/10_state.md R30, R32). -/
def State.beginStep (s : State) : State := { s with dirty := false, status := 0 }

/-- PC can be fetched from: both bytes lie inside memory (spec/20_memory.md R67). -/
def State.canFetch (s : State) : Bool := decide (s.pc.toNat ≤ 0xFFE)

/-- The big-endian word at PC (R63). -/
def State.fetchWord (s : State) : Word := wordOfBytes (s.readByte s.pc.toNat) (s.readByte (s.pc.toNat + 1))

/-- Fetch, decode and execute in a state whose DIRTY and STATUS are already cleared (R90, R231). -/
def State.fetchExecute (s : State) : Host.Outcome State Fault Refusal :=
  if s.canFetch then
    match decodeWord s.fetchWord with
    | .ok i => exec i s
    | .error _ => .next (s.raise .decode s.fetchWord)
  else .next (s.raise .fetchBounds 0x0000)

/-- `STEP` (R90): a halted core changes nothing. -/
def State.cycle (s : State) : Host.Outcome State Fault Refusal :=
  if s.halted then .next s else s.beginStep.fetchExecute

/-- A word stored where the next step fetches: at PC, or at 0x200 where PC cannot be fetched from, in a core that is not
halted (log entry 8). -/
def State.placeWord (s : State) (w : Word) : State :=
  let t := { s with halted := false, pc := if s.canFetch then s.pc else 0x0200 }
  t.storeBytes t.pc.toNat (bytesOfWord w)

end Sys2Proof.Machine
end

