-- ==== Sys2Proof/Machine/Step.lean ====
section
/-! DEFINITION. The `STEP` event and the host's way to place an instruction under the next fetch. -/

namespace Sys2Proof.Machine

/-- The `STEP` event (spec/30_encoding.md R90). The other four events are in Events.lean (log entry 1). -/
def step (s : State) : Host.Outcome State Fault Refusal := s.cycle

/-- `s` with the instruction of an opcode-table word stored where `step` fetches its next instruction. -/
def State.withFetchWord (s : State) (nbits w : Nat) : State := s.placeWord (wordOfTable nbits w)

end Sys2Proof.Machine
end

