-- ==== Sys2Proof/Machine/Events.lean ====
section
/-! DEFINITION. The five events through which the machine changes state (spec/00_scope.md R6), sequences of them from any state
(R7), and the runs of the machine, which begin with `RESET` (spec/70_reset_and_hazards.md R261). -/

namespace Sys2Proof.Machine

/-- `TICK` (spec/60_exceptions.md R239): each timer that is not 0 goes down by one. -/
def tick (s : State) : State :=
  { s with
    dt := if 0 < s.dt.toNat then s.dt - 1 else s.dt
    st := if 0 < s.st.toNat then s.st - 1 else s.st }

/-- `KEYEVENT(k, down)` (R242): `KEY[k] <- down`. -/
def keyEvent (k : Nibble) (down : Bool) (s : State) : State :=
  { s with key := if down then s.key ||| BitVec.twoPow 16 k.toNat else s.key &&& ~~~BitVec.twoPow 16 k.toNat }

/-- Where a loaded program starts (spec/00_scope.md R9 `PROG_BASE`). -/
def progBase : Nat := 0x200

/-- The largest program that can be loaded (R9 `PROG_MAX`). -/
def progMax : Nat := 0xE00

/-- What `LOAD` returns to the host (spec/70_reset_and_hazards.md R262). -/
inductive LoadResult where
  | ok
  | tooLarge
  deriving DecidableEq, Repr

/-- `LOAD(bytes)` (R262, R228): the image at 0x200, or nothing at all when it is too large. -/
def loadImage (bytes : List Byte) (s : State) : LoadResult × State :=
  if progMax < bytes.length then (.tooLarge, s) else (.ok, s.storeBytes progBase bytes)

/-- `RESET` (R260): every piece of state to its reset value. The model's own fields stay: the parameters are constant for the
whole run (spec/10_state.md R38), and the next random byte is a fresh one (R36). -/
def resetEvent (s : State) : State := State.resetWith s.cfg s.draws

/-- An event (spec/00_scope.md R6). `KEYEVENT` exists for k in 0 to 15 only (R242). -/
inductive Event where
  | step
  | tick
  | reset
  | load (bytes : List Byte)
  | keyEvent (k : Nibble) (down : Bool)
  deriving DecidableEq, Repr

/-- One event, whole and atomic (R7). The result of a `LOAD` goes to the host and is no part of the state, so any event may
follow a rejected one here: DESIGN CHOICE (log entry 17), safe; `machineRun` refuses to step a run whose `LOAD` was rejected. -/
def applyEvent (e : Event) (s : State) : Host.Outcome State Fault Refusal :=
  match e with
  | .step => Sys2Proof.Machine.step s
  | .tick => .next (Sys2Proof.Machine.tick s)
  | .reset => .next (resetEvent s)
  | .load bytes => .next (loadImage bytes s).2
  | .keyEvent k down => .next (Sys2Proof.Machine.keyEvent k down s)

/-- A sequence of events from a state: the events in the order the host and the core perform them (R7, R241). It is total on
every `State`, reached or not (log entry 13); the runs of the machine are those of `machineRun`. -/
def runEvents (s : State) : List Event → Host.Outcome State Fault Refusal
  | [] => .next s
  | e :: es =>
    match applyEvent e s with
    | .next t => runEvents t es
    | .fault r => .fault r
    | .refused r => .refused r

/-! ### Runs of the machine -/

/-- How far the host has brought the program since the last `RESET` (spec/70_reset_and_hazards.md R263). It belongs to the run
and is no state of the core (spec/10_state.md R39). -/
inductive Boot where
  /-- no `LOAD` since `RESET`: a step executes the empty memory (R263) -/
  | noProgram
  /-- a `LOAD` has been accepted -/
  | loaded
  /-- only rejected `LOAD`s since `RESET`: the run has no program (spec/93_implementation_defined.md U24) -/
  | rejected
  deriving DecidableEq, Repr

/-- What an event makes of the boot. A `LOAD` that is rejected when a program is in memory leaves it there, and the run goes on
with it: DESIGN CHOICE (log entry 17). -/
def Boot.after (b : Boot) (e : Event) : Boot :=
  match e with
  | .reset => .noProgram
  | .load bytes => if progMax < bytes.length then (if b = .loaded then .loaded else .rejected) else .loaded
  | .step => b
  | .tick => b
  | .keyEvent _ _ => b

/-- The events after a `RESET`: as `runEvents`, but a `STEP` with no program because its `LOAD` was rejected is refused (U24). -/
def runBooted (b : Boot) (s : State) : List Event → Host.Outcome State Fault Refusal
  | [] => .next s
  | e :: es =>
    if e = .step ∧ b = .rejected then .refused .loadRejected
    else
      match applyEvent e s with
      | .next t => runBooted (b.after e) t es
      | .fault r => .fault r
      | .refused r => .refused r

/-- A RUN OF THE MACHINE with parameters `c`, its random bytes counted from `draws`: it begins with a `RESET` event, and before
that there is no state to speak of (R261): whatever comes before `RESET` is refused (spec/93_implementation_defined.md U16). -/
def machineRun (c : Config) (draws : Nat) : List Event → Host.Outcome State Fault Refusal
  | .reset :: es => runBooted .noProgram (State.resetWith c draws) es
  | [] => .refused .beforeReset
  | .step :: _ => .refused .beforeReset
  | .tick :: _ => .refused .beforeReset
  | .load _ :: _ => .refused .beforeReset
  | .keyEvent _ _ :: _ => .refused .beforeReset

end Sys2Proof.Machine
end

