-- ==== Sys2Proof/Safety.lean ====
section
/-! DEFINITION. The terms in which claims speak of the machine: the ends of a run, the invariants, what an instruction may
write and raise, and the pixels a sprite covers. -/

namespace Sys2Proof.Machine

/-! ### The instruction a step runs, and the ends of a run (spec/70_reset_and_hazards.md R268) -/

/-- The instruction at PC, if PC can be fetched from and the word there is legal (spec/30_encoding.md R90). -/
def State.nextInstr (s : State) : Option Instr :=
  if s.canFetch then (decodeWord s.fetchWord).toOption else none

/-- R268 (a): the run has ended in failure. -/
def State.ErrorHalt (s : State) : Prop := s.halted = true

/-- R268 (b): the next instruction is a `1nnn` or `0nnn` that jumps to itself. -/
def State.SelfJump (s : State) : Prop :=
  s.halted = false ∧ ∃ nnn, immNnn nnn = s.pc ∧ (s.nextInstr = some (.jp nnn) ∨ s.nextInstr = some (.sys nnn))

/-- Condition (b) with ERR_SEEN = 0: what the final state of a successful run meets (R268). It holds of the states after the end
too; which of them is the final one, `RunSucceeds` says. -/
def State.CleanEnd (s : State) : Prop := s.SelfJump ∧ s.errSeen = false

/-- One of the two conditions that end a run holds (R268, the spec's decision D32). -/
def State.AtEnd (s : State) : Prop := s.ErrorHalt ∨ s.SelfJump

/-- The run ENDS with the events `es`, in state `t`: an end condition holds there, and at no earlier moment of the run (R268). -/
def RunEnds (c : Config) (draws : Nat) (es : List Event) (t : State) : Prop :=
  machineRun c draws es = .next t ∧ t.AtEnd ∧
    ∀ k < es.length, ∀ u, machineRun c draws (es.take k) = .next u → ¬u.AtEnd

/-- The run ends in success, with final state `t`: the first moment at which (b) holds, with ERR_SEEN = 0 (R268). -/
def RunSucceeds (c : Config) (draws : Nat) (es : List Event) (t : State) : Prop := RunEnds c draws es t ∧ t.CleanEnd

/-- The run ends in failure, in state `t` (R268 (a)). -/
def RunFails (c : Config) (draws : Nat) (es : List Event) (t : State) : Prop := RunEnds c draws es t ∧ t.ErrorHalt

/-- The endless sequence of events `σ` is an UNENDING run: the host keeps stepping, and no moment of the run is an end (R268). A
key wait that never ends is one (spec/60_exceptions.md R246). -/
def RunUnending (c : Config) (draws : Nat) (σ : Nat → Event) : Prop :=
  (∀ n, ∃ m ≥ n, σ m = .step) ∧
    ∀ n > 0, ∃ u, machineRun c draws ((List.range n).map σ) = .next u ∧ ¬u.AtEnd

/-! ### Invariants -/

/-- What every event keeps: memory in canonical form and inside the space; STATUS never 7 (spec/60_exceptions.md R220); a
recorded cause has been seen (spec/10_state.md R34); a halted core has a cause and stands at the instruction that raised it
(R229); a core that runs on with a cause met an unknown opcode under the skip policy (R222). -/
structure State.Inv (s : State) : Prop where
  mem : Memory.wf s.cfg.resetByte s.mem = true
  status : s.status ≠ 7
  seen : s.status ≠ 0 → s.errSeen = true
  halt : s.halted = true → s.status ≠ 0 ∧ s.errPc = s.pc
  skip : s.halted = false → s.status ≠ 0 → s.status = Cause.decode.code ∧ s.cfg.decodeSkip = true

/-- AWAIT = 1 means that the core is not halted and the instruction at PC is an `Fx0A` (R33, R275): kept by every event but
`LOAD`. -/
def State.AwaitInv (s : State) : Prop := s.awaiting = true → s.halted = false ∧ ∃ x, s.nextInstr = some (.ldVxK x)

/-! ### What an instruction may write (spec/10_state.md R41) -/

/-- A set of pieces of state. PC is not in it: every completing instruction sets it (R24). -/
structure Writes where
  regs : Reg → Bool := fun _ => false
  index : Bool := false
  sp : Bool := false
  slots : Nat → Bool := fun _ => false
  dt : Bool := false
  st : Bool := false
  mem : Nat → Bool := fun _ => false
  screen : Bool := false
  keyWait : Bool := false
  errors : Bool := false
  draws : Bool := false

/-- From `s` to `t` nothing changed but PC and what is in `w`. Memory is read byte by byte at every address. KEY and the
parameters are in no set: no instruction writes them (R35, R38). -/
structure Frame (w : Writes) (s t : State) : Prop where
  regs : ∀ x, w.regs x = false → t.reg x = s.reg x
  index : w.index = false → t.i = s.i
  sp : w.sp = false → t.sp = s.sp
  slots : ∀ (k : Nat) (h : k < 16), w.slots k = false → t.stack[k] = s.stack[k]
  dt : w.dt = false → t.dt = s.dt
  st : w.st = false → t.st = s.st
  mem : ∀ a, w.mem a = false → t.readByte a = s.readByte a
  screen : w.screen = false → t.fb = s.fb ∧ t.dirty = s.dirty
  keyWait : w.keyWait = false → t.awaiting = s.awaiting ∧ t.keyPrev = s.keyPrev
  errors : w.errors = false → t.halted = s.halted ∧ t.status = s.status ∧ t.errSeen = s.errSeen ∧ t.errPc = s.errPc ∧
    t.errInsn = s.errInsn
  draws : w.draws = false → t.draws = s.draws
  key : t.key = s.key
  cfg : t.cfg = s.cfg

/-- The register x. -/
def only (x : Reg) : Reg → Bool := fun y => y == x

/-- The register x and VF. -/
def orVf (x : Reg) : Reg → Bool := fun y => y == x || y == vf

/-- The `len` addresses from `base` on. -/
def span (base len : Nat) : Nat → Bool := fun a => decide (base ≤ a) && decide (a < base + len)

/-! ### Sprites (spec/43_display.md R192) -/

/-- A 1 bit of the n-row sprite at I lies over pixel (r, c) when the sprite is drawn at (vx, vy): bit 7 - k of row byte j falls
on row (vy + j) mod 32 and column (vx + k) mod 64. -/
def State.SpriteOn (s : State) (vx vy n : Nat) (r : Fin 32) (c : Fin 64) : Prop :=
  ∃ j < n, ∃ k < 8, (vy + j) % 32 = r.val ∧ (vx + k) % 64 = c.val ∧ (s.readByte (s.i.toNat + j)).getLsbD (7 - k) = true

end Sys2Proof.Machine

namespace Sys2Proof

open Sys2Proof.Machine

/-! ### What each instruction writes and raises -/

/-- The write set of each instruction (R41, R21). `errors` marks the instructions that can raise (R220). -/
def Instr.writes (i : Instr) (s : State) : Writes :=
  match i with
  | .cls => { screen := true }
  | .ret => { sp := true, errors := true }
  | .sys _ => {}
  | .jp _ => {}
  | .call _ => { sp := true, slots := fun k => k == s.sp.val, errors := true }
  | .seImm _ _ => {}
  | .sneImm _ _ => {}
  | .seReg _ _ => {}
  | .ldImm x _ => { regs := only x }
  | .addImm x _ => { regs := only x }
  | .ldReg x _ => { regs := only x }
  | .orReg x _ => { regs := only x }
  | .andReg x _ => { regs := only x }
  | .xorReg x _ => { regs := only x }
  | .addReg x _ => { regs := orVf x }
  | .subReg x _ => { regs := orVf x }
  | .shr x _ => { regs := orVf x }
  | .subnReg x _ => { regs := orVf x }
  | .shl x _ => { regs := orVf x }
  | .sneReg _ _ => {}
  | .ldI _ => { index := true }
  | .jpV0 _ => {}
  | .rnd x _ => { regs := only x, draws := true }
  | .drw _ _ _ => { regs := only vf, screen := true, errors := true }
  | .skp _ => { errors := true }
  | .sknp _ => { errors := true }
  | .ldVxDt x => { regs := only x }
  | .ldVxK x => { regs := only x, keyWait := true }
  | .ldDtVx _ => { dt := true }
  | .ldStVx _ => { st := true }
  | .addI _ => { regs := only vf, index := true }
  | .ldF _ => { index := true, errors := true }
  | .ldB _ => { mem := span (s.effAddr 0) 3, errors := true }
  | .storeRegs x => { mem := span (s.effAddr 0) (x.toNat + 1), index := s.cfg.legacyIInc, errors := true }
  | .loadRegs x => { regs := fun y => decide (y.toNat ≤ x.toNat), index := s.cfg.legacyIInc, errors := true }

/-! ### The one check of each instruction (spec/60_exceptions.md R220, R231) -/

/-- The cause that an instruction raises in a state, if any: no instruction has two different checks (R231). -/
def Instr.check (i : Instr) (s : State) : Option Cause :=
  match i with
  | .cls => none
  | .ret => if s.sp.val = 0 then some .stackUnderflow else none
  | .sys _ => none
  | .jp _ => none
  | .call _ => if s.sp.val = 16 then some .stackOverflow else none
  | .seImm _ _ => none
  | .sneImm _ _ => none
  | .seReg _ _ => none
  | .ldImm _ _ => none
  | .addImm _ _ => none
  | .ldReg _ _ => none
  | .orReg _ _ => none
  | .andReg _ _ => none
  | .xorReg _ _ => none
  | .addReg _ _ => none
  | .subReg _ _ => none
  | .shr _ _ => none
  | .subnReg _ _ => none
  | .shl _ _ => none
  | .sneReg _ _ => none
  | .ldI _ => none
  | .jpV0 _ => none
  | .rnd _ _ => none
  | .drw _ _ n => if n.toNat > 0 ∧ s.i.toNat + n.toNat - 1 > 0xFFF then some .memBounds else none
  | .skp x => if (s.reg x).toNat > 0xF then some .operandRange else none
  | .sknp x => if (s.reg x).toNat > 0xF then some .operandRange else none
  | .ldVxDt _ => none
  | .ldVxK _ => none
  | .ldDtVx _ => none
  | .ldStVx _ => none
  | .addI _ => none
  | .ldF x => if (s.reg x).toNat > 0xF then some .operandRange else none
  | .ldB _ => if s.i.toNat + 2 > 0xFFF then some .memBounds else none
  | .storeRegs x => if s.i.toNat + x.toNat > 0xFFF then some .memBounds else none
  | .loadRegs x => if s.i.toNat + x.toNat > 0xFFF then some .memBounds else none

/-- The seven instructions that write VF as a flag, whatever x and y are (spec/10_state.md R21). -/
def Instr.writesFlag : Instr → Bool
  | .addReg _ _ => true
  | .subReg _ _ => true
  | .shr _ _ => true
  | .subnReg _ _ => true
  | .shl _ _ => true
  | .drw _ _ _ => true
  | .addI _ => true
  | .cls => false
  | .ret => false
  | .sys _ => false
  | .jp _ => false
  | .call _ => false
  | .seImm _ _ => false
  | .sneImm _ _ => false
  | .seReg _ _ => false
  | .ldImm _ _ => false
  | .addImm _ _ => false
  | .ldReg _ _ => false
  | .orReg _ _ => false
  | .andReg _ _ => false
  | .xorReg _ _ => false
  | .sneReg _ _ => false
  | .ldI _ => false
  | .jpV0 _ => false
  | .rnd _ _ => false
  | .skp _ => false
  | .sknp _ => false
  | .ldVxDt _ => false
  | .ldVxK _ => false
  | .ldDtVx _ => false
  | .ldStVx _ => false
  | .ldF _ => false
  | .ldB _ => false
  | .storeRegs _ => false
  | .loadRegs _ => false

/-- VF is the instruction's ordinary destination: its field x is 0xF, or it is `Fx65` with x = 0xF (R21). -/
def Instr.destIsVf : Instr → Bool
  | .ldImm x _ => x == vf
  | .addImm x _ => x == vf
  | .ldReg x _ => x == vf
  | .orReg x _ => x == vf
  | .andReg x _ => x == vf
  | .xorReg x _ => x == vf
  | .addReg x _ => x == vf
  | .subReg x _ => x == vf
  | .shr x _ => x == vf
  | .subnReg x _ => x == vf
  | .shl x _ => x == vf
  | .rnd x _ => x == vf
  | .ldVxDt x => x == vf
  | .ldVxK x => x == vf
  | .loadRegs x => x == vf
  | .cls => false
  | .ret => false
  | .sys _ => false
  | .jp _ => false
  | .call _ => false
  | .seImm _ _ => false
  | .sneImm _ _ => false
  | .seReg _ _ => false
  | .sneReg _ _ => false
  | .ldI _ => false
  | .jpV0 _ => false
  | .drw _ _ _ => false
  | .skp _ => false
  | .sknp _ => false
  | .ldDtVx _ => false
  | .ldStVx _ => false
  | .addI _ => false
  | .ldF _ => false
  | .ldB _ => false
  | .storeRegs _ => false

end Sys2Proof

namespace Sys2Proof.Machine

/-- The cause that the next step of a core that is not halted raises, the tests in the order of R231: the fetch bound, the
decoder, the instruction's own check. -/
def State.nextCause (s : State) : Option Cause :=
  if s.pc.toNat > 0xFFE then some .fetchBounds
  else
    match decodeWord s.fetchWord with
    | .error _ => some .decode
    | .ok i => i.check s

end Sys2Proof.Machine
end

