-- ==== Sys2Proof/Certificates/Slice0/Obligations.lean ====
section
/-! DEFINITION. The statements for the provers. Each docstring names the rule of spec/ it formalises; where a clause rests on a
decision that the spec marks as its own, or on a choice of the model, the docstring names it. `s` and `t` are the states before
and after; `Frame w s t` says that nothing but PC and what is in `w` changed. -/

open Sys2Proof Sys2Proof.Machine

/-! ### Encoding -/

/-- spec/30_encoding.md R91, R92, R95, R96: decoding the bytes of a well-formed instruction gives it back, with every operand at
every value, and leaves the rest of the bytes. -/
def Obligations.DecodeInvertsEncode : Prop :=
  ∀ (i : Instr) (rest : List Byte), i.wellFormed = true → decode (encodeBytes i ++ rest) = .ok (i, rest)

/-- R91, R95, R96: a word that decodes is the word of the instruction it decodes to, which is well-formed: no bit of a legal word
is ignored. -/
def Obligations.EncodeInvertsDecode : Prop :=
  ∀ (w : Word) (i : Instr), decodeWord w = .ok i → encode i = w ∧ i.wellFormed = true

/-- R95, R96: the decoder answers the instruction of the first row of the opcode map that a word selects, and an error where no
row is selected. -/
def Obligations.DecodeFollowsOpcodeMap : Prop :=
  ∀ w : Word, (opcodeMap.find? fun r => r.hit w).map OpcodeRow.mnemonic = (decodeWord w).toOption.map Instr.mnemonic

/-- R97, R98 (the spec's decision D13): which words are illegal, by their digits. -/
def Obligations.IllegalWordsByDigit : Prop :=
  ∀ op x y n : Nibble,
    (∃ e, decodeWord (op ++ x ++ y ++ n) = .error e) ↔
      (op = 0x5 ∧ n ≠ 0) ∨ (op = 0x8 ∧ n ∈ [0x8#4, 0x9#4, 0xA#4, 0xB#4, 0xC#4, 0xD#4, 0xF#4]) ∨ (op = 0x9 ∧ n ≠ 0) ∨
      (op = 0xE ∧ (y ++ n : Byte) ∉ [0x9E#8, 0xA1#8]) ∨
      (op = 0xF ∧ (y ++ n : Byte) ∉ [0x07#8, 0x0A#8, 0x15#8, 0x18#8, 0x1E#8, 0x29#8, 0x33#8, 0x55#8, 0x65#8])

/-- R98: group 8 has no instruction with sub-opcode 8, 9, A, B, C, D or F. That the decoder's answer names the group and the
sub-opcode is the model's own choice (log entry 15). -/
def Obligations.GroupEightGapsAreIllegal : Prop :=
  ∀ (x y n : Nibble), n ∈ [0x8#4, 0x9#4, 0xA#4, 0xB#4, 0xC#4, 0xD#4, 0xF#4] →
    decodeWord (0x8#4 ++ x ++ y ++ n) = .error (.group8 n)

/-- R96: some words written out by hand, among them D015 of the source's example S9 (spec/95_test_vectors.md). That 00E0 and 00EE
are no `0nnn` while 00E1 is one is the spec's decision D33. -/
def Obligations.SampleWordsDecode : Prop :=
  decodeWord 0x00E0 = .ok .cls ∧ decodeWord 0x00EE = .ok .ret ∧ decodeWord 0x00E1 = .ok (.sys 0x0E1) ∧
  decodeWord 0x1234 = .ok (.jp 0x234) ∧ decodeWord 0x6A2C = .ok (.ldImm 0xA 0x2C) ∧ decodeWord 0x8F14 = .ok (.addReg 0xF 0x1) ∧
  decodeWord 0xA2F0 = .ok (.ldI 0x2F0) ∧ decodeWord 0xD015 = .ok (.drw 0x0 0x1 0x5) ∧ decodeWord 0xE29E = .ok (.skp 0x2) ∧
  decodeWord 0xF30A = .ok (.ldVxK 0x3) ∧ decodeWord 0xF265 = .ok (.loadRegs 0x2)

/-! ### The step -/

/-- R90: a core that is not halted, whose PC can be fetched from and whose big-endian word at PC decodes to `i`, runs `i` in the
state with DIRTY and STATUS cleared. Nothing else is around `exec`: PC is set by the instruction itself. -/
def Obligations.StepRunsDecodedInstr : Prop :=
  ∀ (s : State) (i : Instr), s.halted = false → s.pc.toNat ≤ 0xFFE →
    decodeWord (s.readByte s.pc.toNat ++ s.readByte (s.pc.toNat + 1)) = .ok i →
    step s = exec i { s with dirty := false, status := 0 }

/-- R90, spec/10_state.md R31 (the spec's decision D19): a step of a halted core changes nothing at all. -/
def Obligations.HaltedStepChangesNothing : Prop := ∀ s : State, s.halted = true → step s = .next s

/-- spec/20_memory.md R67, spec/60_exceptions.md R227, R229 (the spec's decisions D5, D17, D18): a step with PC above 0xFFE
records FETCH_BOUNDS with no word, and halts. -/
def Obligations.FetchBeyondMemoryRaises : Prop :=
  ∀ s : State, s.halted = false → 0xFFE < s.pc.toNat →
    step s = .next { s with
      dirty := false, status := 6, errSeen := true, errPc := s.pc, errInsn := 0x0000, halted := true }

/-- R222, R229 (the spec's decisions D12, D17, D18): an illegal word is recorded; then the core halts, or, under
CFG_DECODE_SKIP, passes over it and runs on. -/
def Obligations.IllegalWordRaisesDecode : Prop :=
  ∀ (s : State) (e : DecodeError), s.halted = false → s.pc.toNat ≤ 0xFFE → decodeWord s.fetchWord = .error e →
    step s = .next { s with
      dirty := false, status := 1, errSeen := true, errPc := s.pc, errInsn := s.fetchWord
      halted := !s.cfg.decodeSkip, pc := if s.cfg.decodeSkip then s.pc + 2 else s.pc }

/-- R90, R229 (and log entry 6 of the model): every step answers a next state; errors are states, and no instruction is left
without a meaning. A run that begins with `RESET` and whose `LOAD`s are all accepted answers a state; one that does not begin so
has no meaning (spec/70_reset_and_hazards.md R261, the spec's decision D35), and one whose only `LOAD` was rejected is stepped no
further (U24 of spec/93_implementation_defined.md, log entry 17). -/
def Obligations.EveryStepAnswersNext : Prop :=
  (∀ s : State, ∃ t, step s = .next t) ∧
  (∀ (c : Config) (d : Nat) (es : List Event), (∀ bytes, Event.load bytes ∈ es → bytes.length ≤ 0xE00) →
    ∃ t, machineRun c d (.reset :: es) = .next t) ∧
  (∀ (c : Config) (d : Nat) (es : List Event), es.head? ≠ some .reset → machineRun c d es = .refused .beforeReset) ∧
  (∀ (c : Config) (d : Nat) (bytes : List Byte) (es : List Event), 0xE00 < bytes.length →
    machineRun c d (.reset :: .load bytes :: .step :: es) = .refused .loadRejected)

/-- spec/10_state.md R30 (the spec's decision D20): after a step of a core that is not halted, DIRTY is 1 exactly when the step
completed a `00E0` or a `Dxyn`. -/
def Obligations.DirtyMarksCompletedDraw : Prop :=
  ∀ s t : State, s.halted = false → step s = .next t →
    (t.dirty = true ↔
      s.nextInstr = some .cls ∨ ∃ x y n, s.nextInstr = some (.drw x y n) ∧ (Instr.drw x y n).check s = none)

/-- spec/60_exceptions.md R229, R230, spec/10_state.md R32, R34 (the spec's decisions D16, D18): a step that raises records the
cause, the PC and the fetched word, halts unless the cause is an unknown opcode under the skip policy, and changes nothing else
but DIRTY; a step that raises nothing leaves the error registers. -/
def Obligations.ErrorsAreRecordedAndPrecise : Prop :=
  ∀ s t : State, s.halted = false → step s = .next t →
    (t.status = 0 → t.halted = false ∧ t.errSeen = s.errSeen ∧ t.errPc = s.errPc ∧ t.errInsn = s.errInsn) ∧
    (t.status ≠ 0 →
      t = { s with
        dirty := false, status := t.status, errSeen := true, errPc := s.pc
        errInsn := if s.pc.toNat ≤ 0xFFE then s.fetchWord else 0x0000
        halted := !(t.status == 1 && s.cfg.decodeSkip)
        pc := if t.status == 1 && s.cfg.decodeSkip then s.pc + 2 else s.pc })

/-- R220, R231 (the spec's decision D17): which cause the STATUS of a step names: the first that applies of the fetch bound, the
decoder and the instruction's one check, and 0 when none does. -/
def Obligations.StatusNamesCause : Prop :=
  ∀ s t : State, s.halted = false → step s = .next t → t.status = (s.nextCause.map Cause.code).getD 0

/-- R63 and log entry 8 of the model: a word of the opcode table, placed under the next fetch, is what the next step of any
state fetches. -/
def Obligations.PlacedWordIsNext : Prop :=
  ∀ (s : State) (w : Nat),
    (s.withFetchWord 16 w).halted = false ∧ (s.withFetchWord 16 w).nextInstr = decodeTableWord 16 w

/-! ### Control transfer -/

/-- spec/40_control_flow.md R123: `1nnn` sets PC to nnn and writes nothing else. -/
def Obligations.JumpSetsPc : Prop :=
  ∀ (nnn : Addr12) (s : State),
    decodeWord (0x1#4 ++ nnn) = .ok (.jp nnn) ∧
    ∃ t, exec (.jp nnn) s = .next t ∧ t.pc.toNat = nnn.toNat ∧ Frame {} s t

/-- R121 (the spec's decision D33) and R129 (D4): `0nnn` is a jump to nnn; `Bnnn` jumps to nnn + V0, not cut to 12 bits. That
the ill-formed terms `.sys 0x0E0` and `.sys 0x0EE`, which no word decodes to, jump as well is the model's own choice (log entry
15). -/
def Obligations.SysAndOffsetJumps : Prop :=
  ∀ (nnn : Addr12) (s : State),
    (∃ t, exec (.sys nnn) s = .next t ∧ t.pc.toNat = nnn.toNat ∧ Frame {} s t) ∧
    (∃ t, exec (.jpV0 nnn) s = .next t ∧ t.pc.toNat = nnn.toNat + (s.reg 0x0).toNat ∧ Frame {} s t)

/-- R125, R126: `3xkk` and `4xkk` skip by the comparison of Vx with kk. -/
def Obligations.ConstantSkips : Prop :=
  ∀ (x : Reg) (kk : Byte) (s : State),
    (decodeWord (0x3#4 ++ x ++ kk) = .ok (.seImm x kk) ∧ ∃ t, exec (.seImm x kk) s = .next t ∧
      t.pc.toNat = (s.pc.toNat + if s.reg x = kk then 4 else 2) % 2 ^ 16 ∧ Frame {} s t) ∧
    (decodeWord (0x4#4 ++ x ++ kk) = .ok (.sneImm x kk) ∧ ∃ t, exec (.sneImm x kk) s = .next t ∧
      t.pc.toNat = (s.pc.toNat + if s.reg x ≠ kk then 4 else 2) % 2 ^ 16 ∧ Frame {} s t)

/-- R127, R128: `5xy0` and `9xy0` skip by the comparison of Vx with Vy. -/
def Obligations.RegisterSkips : Prop :=
  ∀ (x y : Reg) (s : State),
    (decodeWord (0x5#4 ++ x ++ y ++ 0x0#4) = .ok (.seReg x y) ∧ ∃ t, exec (.seReg x y) s = .next t ∧
      t.pc.toNat = (s.pc.toNat + if s.reg x = s.reg y then 4 else 2) % 2 ^ 16 ∧ Frame {} s t) ∧
    (decodeWord (0x9#4 ++ x ++ y ++ 0x0#4) = .ok (.sneReg x y) ∧ ∃ t, exec (.sneReg x y) s = .next t ∧
      t.pc.toNat = (s.pc.toNat + if s.reg x ≠ s.reg y then 4 else 2) % 2 ^ 16 ∧ Frame {} s t)

/-- R124 (the spec's decision D2: the address after the call is what is pushed): with a free slot `2nnn` pushes and jumps. -/
def Obligations.CallPushesReturnAddress : Prop :=
  ∀ (nnn : Addr12) (s : State) (h : s.sp.val < 16),
    ∃ t, exec (.call nnn) s = .next t ∧ (t.stack[s.sp.val]'h).toNat = (s.pc.toNat + 2) % 2 ^ 16 ∧
      t.sp.val = s.sp.val + 1 ∧ t.pc.toNat = nnn.toNat ∧
      Frame { sp := true, slots := fun k => k == s.sp.val } s t

/-- R122 (the spec's decision D2), spec/10_state.md R25 (D27): with a return address stacked `00EE` goes to it; the vacated slot
keeps its value. -/
def Obligations.ReturnPopsAddress : Prop :=
  ∀ (s : State) (_ : s.sp.val ≠ 0),
    ∃ t, exec .ret s = .next t ∧ t.pc = s.stack[s.sp.val - 1]'(by omega) ∧ t.sp.val = s.sp.val - 1 ∧
      Frame { sp := true } s t

/-- R122, R124, spec/60_exceptions.md R223, R224, R229 (the spec's decisions D16 to D18): a call with 16 addresses stacked and a
return with none push and pop nothing, are recorded and halt the core. -/
def Obligations.StackErrorsHalt : Prop :=
  ∀ (nnn : Addr12) (s : State),
    (s.sp.val = 16 → exec (.call nnn) s = .next { s with
      status := 2, errSeen := true, errPc := s.pc, errInsn := 0x2#4 ++ nnn, halted := true }) ∧
    (s.sp.val = 0 → exec .ret s = .next { s with
      status := 3, errSeen := true, errPc := s.pc, errInsn := 0x00EE, halted := true })

/-- R122, R124 (the spec's decision D2): a call at address A, and later a return with the stack as the call left it, comes back
to A + 2 with the stack's depth as before the call. -/
def Obligations.CallThenReturn : Prop :=
  ∀ (nnn : Addr12) (s t u : State), exec (.call nnn) s = .next t → s.sp.val < 16 → u.sp = t.sp →
    (∀ (k : Nat) (_ : k < 16), k < t.sp.val → u.stack[k] = t.stack[k]) →
    ∃ r, exec .ret u = .next r ∧ r.pc.toNat = (s.pc.toNat + 2) % 2 ^ 16 ∧ r.sp = s.sp

/-! ### Loads and arithmetic -/

/-- spec/41_load_alu.md R141, R143, R144, R145, R146: `6xkk`, `8xy0` to `8xy3`: constant, copy, OR, AND, XOR; no flag. -/
def Obligations.LoadsAndLogic : Prop :=
  ∀ (x y : Reg) (kk : Byte) (s : State),
    ∀ p ∈ [((0x6#4 ++ x ++ kk : Word), Instr.ldImm x kk, kk), (0x8#4 ++ x ++ y ++ 0x0#4, .ldReg x y, s.reg y),
        (0x8#4 ++ x ++ y ++ 0x1#4, .orReg x y, s.reg x ||| s.reg y), (0x8#4 ++ x ++ y ++ 0x2#4, .andReg x y, s.reg x &&& s.reg y),
        (0x8#4 ++ x ++ y ++ 0x3#4, .xorReg x y, s.reg x ^^^ s.reg y)],
      decodeWord p.1 = .ok p.2.1 ∧
      ∃ t, exec p.2.1 s = .next t ∧ t.reg x = p.2.2 ∧ t.pc.toNat = (s.pc.toNat + 2) % 2 ^ 16 ∧ Frame { regs := only x } s t

/-- R142: `7xkk`: the sum wraps and no flag is written. -/
def Obligations.AddImmediateWraps : Prop :=
  ∀ (x : Reg) (kk : Byte) (s : State),
    decodeWord (0x7#4 ++ x ++ kk) = .ok (.addImm x kk) ∧
    ∃ t, exec (.addImm x kk) s = .next t ∧ (t.reg x).toNat = ((s.reg x).toNat + kk.toNat) % 256 ∧
      t.pc.toNat = (s.pc.toNat + 2) % 2 ^ 16 ∧ Frame { regs := only x } s t

/-- R147, R140 (with x = 0xF or y = 0xF the spec's decision D8): the sum modulo 256, and the carry in VF unless VF is the
destination. -/
def Obligations.AddSetsCarry : Prop :=
  ∀ (x y : Reg) (s : State),
    ∃ t, exec (.addReg x y) s = .next t ∧ (t.reg x).toNat = ((s.reg x).toNat + (s.reg y).toNat) % 256 ∧
      (x ≠ vf → t.reg vf = if (s.reg x).toNat + (s.reg y).toNat > 255 then 1 else 0) ∧
      t.pc.toNat = (s.pc.toNat + 2) % 2 ^ 16 ∧ Frame { regs := orVf x } s t

/-- R148, R150, R140 (the spec's decisions D8, D10): the difference modulo 256, and no-borrow in VF, under both settings of
CFG_BORROW_STRICT. -/
def Obligations.SubtractSetsNoBorrow : Prop :=
  ∀ (x y : Reg) (s : State),
    (∃ t, exec (.subReg x y) s = .next t ∧ (t.reg x).toNat = (256 + (s.reg x).toNat - (s.reg y).toNat) % 256 ∧
      (x ≠ vf → t.reg vf =
        if (s.reg x).toNat > (s.reg y).toNat ∨ (s.cfg.borrowStrict = false ∧ s.reg x = s.reg y) then 1 else 0) ∧
      t.pc.toNat = (s.pc.toNat + 2) % 2 ^ 16 ∧ Frame { regs := orVf x } s t) ∧
    (∃ t, exec (.subnReg x y) s = .next t ∧ (t.reg x).toNat = (256 + (s.reg y).toNat - (s.reg x).toNat) % 256 ∧
      (x ≠ vf → t.reg vf =
        if (s.reg y).toNat > (s.reg x).toNat ∨ (s.cfg.borrowStrict = false ∧ s.reg x = s.reg y) then 1 else 0) ∧
      t.pc.toNat = (s.pc.toNat + 2) % 2 ^ 16 ∧ Frame { regs := orVf x } s t)

/-- R149, R151 (the spec's decisions D8, D9; CFG_SHIFT_SRC_VY = 1 is general knowledge, log entry 12): one place right or left,
the bit shifted out in VF. -/
def Obligations.ShiftsPutOutBit : Prop :=
  ∀ (x y : Reg) (s : State) (v : Nat), v = (s.reg (if s.cfg.shiftSrcVy then y else x)).toNat →
    (∃ t, exec (.shr x y) s = .next t ∧ (t.reg x).toNat = v / 2 ∧ (x ≠ vf → (t.reg vf).toNat = v % 2) ∧
      t.pc.toNat = (s.pc.toNat + 2) % 2 ^ 16 ∧ Frame { regs := orVf x } s t) ∧
    (∃ t, exec (.shl x y) s = .next t ∧ (t.reg x).toNat = v * 2 % 256 ∧ (x ≠ vf → (t.reg vf).toNat = v / 128) ∧
      t.pc.toNat = (s.pc.toNat + 2) % 2 ^ 16 ∧ Frame { regs := orVf x } s t)

/-- R152 (the spec's decision D22; the byte is the free value of log entry 4): Vx is the random byte of this draw masked with
kk, so a bit that is 0 in kk is 0 in Vx; the next draw is another one. -/
def Obligations.RandomByteIsMasked : Prop :=
  ∀ (x : Reg) (kk : Byte) (s : State),
    ∃ t, exec (.rnd x kk) s = .next t ∧ t.reg x = Config.rnd s.draws &&& kk ∧
      (∀ k, kk.getLsbD k = false → (t.reg x).getLsbD k = false) ∧ t.draws = s.draws + 1 ∧
      t.pc.toNat = (s.pc.toNat + 2) % 2 ^ 16 ∧ Frame { regs := only x, draws := true } s t

/-- spec/10_state.md R21: the seven flag writers put 0 or 1 into VF when they complete (unless VF is their destination too);
every other instruction leaves VF unless VF is its destination. -/
def Obligations.OnlyFlagWritersTouchVf : Prop :=
  ∀ (i : Instr) (s t : State), exec i s = .next t → i.destIsVf = false →
    (i.writesFlag = true → i.check s = none → t.reg vf = 0 ∨ t.reg vf = 1) ∧
    (i.writesFlag = false → t.reg vf = s.reg vf)

/-! ### Index register and memory -/

/-- spec/42_index_memory.md R171: `Annn`: I gets nnn, its upper four bits 0. -/
def Obligations.LoadIndex : Prop :=
  ∀ (nnn : Addr12) (s : State),
    decodeWord (0xA#4 ++ nnn) = .ok (.ldI nnn) ∧
    ∃ t, exec (.ldI nnn) s = .next t ∧ t.i.toNat = nnn.toNat ∧ t.pc.toNat = (s.pc.toNat + 2) % 2 ^ 16 ∧
      Frame { index := true } s t

/-- R172 (the spec's decision D6): I keeps 16 bits of the sum; VF says whether the true sum lies above 0xFFF, with x = 0xF
too. -/
def Obligations.AddIndexFlagsOverflow : Prop :=
  ∀ (x : Reg) (s : State),
    ∃ t, exec (.addI x) s = .next t ∧ t.i.toNat = (s.i.toNat + (s.reg x).toNat) % 2 ^ 16 ∧
      t.reg vf = (if s.i.toNat + (s.reg x).toNat > 0xFFF then 1 else 0) ∧ t.pc.toNat = (s.pc.toNat + 2) % 2 ^ 16 ∧
      Frame { regs := only vf, index := true } s t

/-- R173, spec/60_exceptions.md R225 (the spec's decision D16): the glyph's address, or OPERAND_RANGE above 0xF. -/
def Obligations.GlyphAddress : Prop :=
  ∀ (x : Reg) (s : State),
    ((s.reg x).toNat ≤ 0xF → ∃ t, exec (.ldF x) s = .next t ∧ t.i.toNat = (s.reg x).toNat * 5 ∧
      t.pc.toNat = (s.pc.toNat + 2) % 2 ^ 16 ∧ Frame { index := true } s t) ∧
    ((s.reg x).toNat > 0xF → exec (.ldF x) s = .next (s.raise .operandRange (0xF#4 ++ x ++ 0x29#8)))

/-- R174 (the spec's decision D7): the three decimal digits of Vx at I, I + 1, I + 2, every other byte as before. -/
def Obligations.DecimalDigitsStored : Prop :=
  ∀ (x : Reg) (s : State), s.i.toNat + 2 ≤ 0xFFF →
    ∃ t, exec (.ldB x) s = .next t ∧
      (s.reg x).toNat = 100 * (t.readByte s.i.toNat).toNat + 10 * (t.readByte (s.i.toNat + 1)).toNat +
        (t.readByte (s.i.toNat + 2)).toNat ∧
      (t.readByte (s.i.toNat + 1)).toNat ≤ 9 ∧ (t.readByte (s.i.toNat + 2)).toNat ≤ 9 ∧
      t.pc.toNat = (s.pc.toNat + 2) % 2 ^ 16 ∧ Frame { mem := span (s.effAddr 0) 3 } s t

/-- R175 (the spec's decisions D7, D11): V0 to Vx at I to I + x, every other byte as before; I advances by x + 1 under
CFG_LEGACY_I_INC only. -/
def Obligations.RegistersStored : Prop :=
  ∀ (x : Reg) (s : State), s.i.toNat + x.toNat ≤ 0xFFF →
    ∃ t, exec (.storeRegs x) s = .next t ∧
      (∀ y : Reg, y.toNat ≤ x.toNat → t.readByte (s.i.toNat + y.toNat) = s.reg y) ∧
      (s.cfg.legacyIInc = true → t.i.toNat = (s.i.toNat + x.toNat + 1) % 2 ^ 16) ∧
      t.pc.toNat = (s.pc.toNat + 2) % 2 ^ 16 ∧
      Frame { mem := span (s.effAddr 0) (x.toNat + 1), index := s.cfg.legacyIInc } s t

/-- R176 (the spec's decisions D7, D11): V0 to Vx from I to I + x; registers above Vx and all of memory as before. -/
def Obligations.RegistersLoaded : Prop :=
  ∀ (x : Reg) (s : State), s.i.toNat + x.toNat ≤ 0xFFF →
    ∃ t, exec (.loadRegs x) s = .next t ∧
      (∀ y : Reg, y.toNat ≤ x.toNat → t.reg y = s.readByte (s.i.toNat + y.toNat)) ∧
      (s.cfg.legacyIInc = true → t.i.toNat = (s.i.toNat + x.toNat + 1) % 2 ^ 16) ∧
      t.pc.toNat = (s.pc.toNat + 2) % 2 ^ 16 ∧
      Frame { regs := fun y => decide (y.toNat ≤ x.toNat), index := s.cfg.legacyIInc } s t

/-- spec/20_memory.md R66, R68, spec/60_exceptions.md R226, R229 (the spec's decisions D7, D15 to D18): an access whose last
address is above 0xFFF is recorded, halts, and reads, writes and draws nothing. -/
def Obligations.OutOfBoundsAccessRaises : Prop :=
  ∀ (x y : Reg) (n : Nibble) (s : State),
    ∀ p ∈ [(Instr.ldB x, s.i.toNat + 2), (Instr.storeRegs x, s.i.toNat + x.toNat), (Instr.loadRegs x, s.i.toNat + x.toNat),
        (Instr.drw x y n, if n = 0 then 0 else s.i.toNat + n.toNat - 1)],
      p.2 > 0xFFF → exec p.1 s = .next { s with
        status := 5, errSeen := true, errPc := s.pc, errInsn := encode p.1, halted := true }

/-- spec/20_memory.md R71, R72: registers stored and loaded back from the same addresses of the same memory are what they were,
whatever the registers have become in between. -/
def Obligations.StoreThenLoadRestores : Prop :=
  ∀ (x : Reg) (s t u r : State), s.i.toNat + x.toNat ≤ 0xFFF → exec (.storeRegs x) s = .next t → u.mem = t.mem →
    u.cfg = t.cfg → u.i = s.i → exec (.loadRegs x) u = .next r → ∀ y : Reg, y.toNat ≤ x.toNat → r.reg y = s.reg y

/-- spec/70_reset_and_hazards.md R272: a byte that `Fx33` (digit k) or `Fx55` (register k) stores at PC or PC + 1 of the very
next fetch is what that fetch sees. -/
def Obligations.NextFetchSeesStores : Prop :=
  ∀ (x : Reg) (s t : State) (k : Nat) (b : Byte),
    (exec (.ldB x) s = .next t ∧ s.i.toNat + 2 ≤ 0xFFF ∧ k < 3 ∧ b.toNat = (s.reg x).toNat / 10 ^ (2 - k) % 10) ∨
      (exec (.storeRegs x) s = .next t ∧ s.i.toNat + x.toNat ≤ 0xFFF ∧ k ≤ x.toNat ∧ b = s.reg (BitVec.ofNat 4 k)) →
    (s.i.toNat + k = t.pc.toNat → highByte t.fetchWord = b) ∧ (s.i.toNat + k = t.pc.toNat + 1 → lowByte t.fetchWord = b)

/-! ### Display -/

/-- spec/43_display.md R191: `00E0`: every pixel off, DIRTY 1, VF untouched. -/
def Obligations.ClearScreen : Prop :=
  decodeWord 0x00E0 = .ok .cls ∧ ∀ s : State, ∃ t, exec .cls s = .next t ∧ (∀ r c, pixel t.fb r c = false) ∧ t.dirty = true ∧
    t.pc.toNat = (s.pc.toNat + 2) % 2 ^ 16 ∧ Frame { screen := true } s t

/-- R192 (the spec's decisions D8, D14, D15, D29): inside memory, or with n = 0, each pixel under a 1 bit of the sprite flips and
no other, VF says whether one of them was on, and DIRTY is 1. -/
def Obligations.DrawXorsPixels : Prop :=
  ∀ (x y : Reg) (n : Nibble) (s : State), (n = 0 ∨ s.i.toNat + n.toNat - 1 ≤ 0xFFF) →
    ∃ t, exec (.drw x y n) s = .next t ∧
      (∀ r c, (s.SpriteOn (s.reg x).toNat (s.reg y).toNat n.toNat r c → pixel t.fb r c = !pixel s.fb r c) ∧
        (¬s.SpriteOn (s.reg x).toNat (s.reg y).toNat n.toNat r c → pixel t.fb r c = pixel s.fb r c)) ∧
      ((t.reg vf = 1 ∧ ∃ r c, s.SpriteOn (s.reg x).toNat (s.reg y).toNat n.toNat r c ∧ pixel s.fb r c = true) ∨
        (t.reg vf = 0 ∧ ¬∃ r c, s.SpriteOn (s.reg x).toNat (s.reg y).toNat n.toNat r c ∧ pixel s.fb r c = true)) ∧
      t.dirty = true ∧ t.pc.toNat = (s.pc.toNat + 2) % 2 ^ 16 ∧ Frame { regs := only vf, screen := true } s t

/-- R193 (b): drawing the same sprite twice at the same place restores the framebuffer; VF is then 1 exactly when a 1 bit fell
on a pixel that was off before the first draw. VF must not be a coordinate. -/
def Obligations.DrawTwiceRestores : Prop :=
  ∀ (x y : Reg) (n : Nibble) (s t u : State), x ≠ vf → y ≠ vf → (n = 0 ∨ s.i.toNat + n.toNat - 1 ≤ 0xFFF) →
    exec (.drw x y n) s = .next t → exec (.drw x y n) t = .next u →
    u.fb = s.fb ∧
    (u.reg vf = 1 ↔ ∃ r c, s.SpriteOn (s.reg x).toNat (s.reg y).toNat n.toNat r c ∧ pixel s.fb r c = false)

/-! ### Keys and timers -/

/-- spec/44_keys_timers.md R201: skip when the key numbered Vx is held; OPERAND_RANGE above 0xF. -/
def Obligations.SkipIfKeyHeld : Prop :=
  ∀ (x : Reg) (s : State),
    ((s.reg x).toNat ≤ 0xF → ∃ t, exec (.skp x) s = .next t ∧
      t.pc.toNat = (s.pc.toNat + if s.key.getLsbD (s.reg x).toNat = true then 4 else 2) % 2 ^ 16 ∧ Frame {} s t) ∧
    ((s.reg x).toNat > 0xF → exec (.skp x) s = .next (s.raise .operandRange (0xE#4 ++ x ++ 0x9E#8)))

/-- R202, which the spec derives from R201: skip when the key numbered Vx is not held; OPERAND_RANGE above 0xF. -/
def Obligations.SkipIfKeyUp : Prop :=
  ∀ (x : Reg) (s : State),
    ((s.reg x).toNat ≤ 0xF → ∃ t, exec (.sknp x) s = .next t ∧
      t.pc.toNat = (s.pc.toNat + if s.key.getLsbD (s.reg x).toNat = false then 4 else 2) % 2 ^ 16 ∧ Frame {} s t) ∧
    ((s.reg x).toNat > 0xF → exec (.sknp x) s = .next (s.raise .operandRange (0xE#4 ++ x ++ 0xA1#8)))

/-- R204, spec/10_state.md R33 (the spec's decision D21): the first attempt arms; a later one with no fresh key waits; a later
one with a fresh key delivers the lowest and completes. A key is fresh when it is held now and was not at the previous
attempt. -/
def Obligations.KeyWaitAttempts : Prop :=
  ∀ (x : Reg) (s : State),
    (s.awaiting = false → ∃ t, exec (.ldVxK x) s = .next t ∧ t.awaiting = true ∧ t.keyPrev = s.key ∧ t.pc = s.pc ∧
      Frame { keyWait := true } s t) ∧
    (s.awaiting = true → (∀ k < 16, s.key.getLsbD k = true → s.keyPrev.getLsbD k = true) →
      ∃ t, exec (.ldVxK x) s = .next t ∧ t.awaiting = true ∧ t.keyPrev = s.key ∧ t.pc = s.pc ∧
        Frame { keyWait := true } s t) ∧
    (∀ k < 16, s.awaiting = true → s.key.getLsbD k = true → s.keyPrev.getLsbD k = false →
      (∀ j < k, s.key.getLsbD j = true → s.keyPrev.getLsbD j = true) →
      ∃ t, exec (.ldVxK x) s = .next t ∧ (t.reg x).toNat = k ∧ t.awaiting = false ∧ t.keyPrev = s.key ∧
        t.pc.toNat = (s.pc.toNat + 2) % 2 ^ 16 ∧ Frame { regs := only x, keyWait := true } s t)

/-- R203: `Fx07`: Vx gets the delay timer, which the read does not change. -/
def Obligations.DelayTimerRead : Prop :=
  ∀ (x : Reg) (s : State),
    decodeWord (0xF#4 ++ x ++ 0x07#8) = .ok (.ldVxDt x) ∧
    ∃ t, exec (.ldVxDt x) s = .next t ∧ t.reg x = s.dt ∧ t.pc.toNat = (s.pc.toNat + 2) % 2 ^ 16 ∧
      Frame { regs := only x } s t

/-- R205, R206 (the spec's decisions D28, D34): each timer is replaced whole by Vx. -/
def Obligations.TimersWritten : Prop :=
  ∀ (x : Reg) (s : State),
    (∃ t, exec (.ldDtVx x) s = .next t ∧ t.dt = s.reg x ∧ t.pc.toNat = (s.pc.toNat + 2) % 2 ^ 16 ∧
      Frame { dt := true } s t) ∧
    (∃ t, exec (.ldStVx x) s = .next t ∧ t.st = s.reg x ∧ t.pc.toNat = (s.pc.toNat + 2) % 2 ^ 16 ∧
      Frame { st := true } s t)

/-! ### The other events -/

/-- spec/60_exceptions.md R239 (the spec's decisions D19, D25): n ticks take n off each timer, never below 0, and change nothing
else, halted or not. -/
def Obligations.TicksCountDown : Prop :=
  ∀ (n : Nat) (s : State),
    ∃ t, runEvents s (List.replicate n .tick) = .next t ∧ t.dt.toNat = s.dt.toNat - n ∧ t.st.toNat = s.st.toNat - n ∧
      t = { s with dt := t.dt, st := t.st }

/-- R242 (the spec's decision D31): a key event writes one bit of KEY and nothing else. -/
def Obligations.KeyEventWritesOneBit : Prop :=
  ∀ (k : Nibble) (down : Bool) (s : State),
    ∃ t, applyEvent (.keyEvent k down) s = .next t ∧
      (∀ j < 16, t.key.getLsbD j = if j = k.toNat then down else s.key.getLsbD j) ∧ t = { s with key := t.key }

/-- spec/70_reset_and_hazards.md R262, R228 (the spec's decision D26): an image of at most 0xE00 bytes is placed at 0x200 and
nothing else changes; a larger one is rejected and nothing changes. -/
def Obligations.LoadPlacesImage : Prop :=
  ∀ (bytes : List Byte) (s : State),
    applyEvent (.load bytes) s = .next (loadImage bytes s).2 ∧
    (bytes.length ≤ 0xE00 →
      ∃ t, loadImage bytes s = (.ok, t) ∧ (∀ (k : Nat) (h : k < bytes.length), t.readByte (0x200 + k) = bytes[k]) ∧
        (∀ a, a < 0x200 ∨ 0x200 + bytes.length ≤ a → t.readByte a = s.readByte a) ∧ t = { s with mem := t.mem }) ∧
    (0xE00 < bytes.length → loadImage bytes s = (.tooLarge, s))

/-- R260, spec/10_state.md R40: what `RESET` leaves, in any state before. PC, SP, FB and the presence of the font are the
source's; every other value is the spec's decision D23 (log entry 5), the font bytes are the parameter FONT. -/
def Obligations.ResetValues : Prop :=
  ∀ s : State, ∃ t, applyEvent .reset s = .next t ∧ (∀ x, t.reg x = 0) ∧ t.i = 0 ∧ t.pc = 0x0200 ∧ t.sp = 0 ∧
    (∀ (k : Nat) (_ : k < 16), t.stack[k] = 0) ∧ t.dt = 0 ∧ t.st = 0 ∧
    (∀ (a : Nat) (_ : a < 80), t.readByte a = s.cfg.font[a]) ∧ (∀ a, 80 ≤ a → a ≤ 0xFFF → t.readByte a = s.cfg.memInit) ∧
    (∀ r c, pixel t.fb r c = false) ∧ t.dirty = false ∧ t.halted = false ∧ t.status = 0 ∧ t.errSeen = false ∧
    t.errPc = 0 ∧ t.errInsn = 0 ∧ t.awaiting = false ∧ t.keyPrev = 0 ∧ t.key = 0 ∧ t.cfg = s.cfg

/-! ### Invariants and whole-machine rules -/

/-- The invariants hold right after `RESET`, with any parameters (R260, R40). -/
def Obligations.ResetMeetsInvariants : Prop :=
  State.reset.Inv ∧ State.reset.AwaitInv ∧ ∀ (c : Config) (d : Nat), (State.resetWith c d).Inv ∧ (State.resetWith c d).AwaitInv

/-- R66, R71, R220, R222, R229: a step keeps the invariant, from every state that meets it. -/
def Obligations.StepKeepsInvariant : Prop := ∀ s t : State, s.Inv → step s = .next t → t.Inv

/-- The same over every interleaving of the five events (spec/00_scope.md R7), which also leaves the parameters as they are
(spec/10_state.md R38); so every state of every run of the machine, which begins with `RESET` (spec/70_reset_and_hazards.md
R261), meets the invariant and has the run's parameters. -/
def Obligations.EveryRunKeepsInvariant : Prop :=
  (∀ (es : List Event) (s t : State), s.Inv → runEvents s es = .next t → t.Inv ∧ t.cfg = s.cfg) ∧
  (∀ (c : Config) (d : Nat) (es : List Event) (t : State), machineRun c d es = .next t → t.Inv ∧ t.cfg = c)

/-- spec/70_reset_and_hazards.md R275: in every interleaving without a `LOAD`, AWAIT = 1 means that the instruction at PC is an
`Fx0A` of a core that is not halted. -/
def Obligations.AwaitMeansKeyWaitAtPc : Prop :=
  ∀ (es : List Event) (s t : State), (∀ bytes, Event.load bytes ∉ es) → s.AwaitInv → runEvents s es = .next t → t.AwaitInv

/-- R31, R233, R246 (the spec's decision D19): without a `RESET` a halted core stays halted, and the other events change only
the timers, KEY and memory. -/
def Obligations.OnlyResetLeavesHalt : Prop :=
  ∀ (es : List Event) (s t : State), Event.reset ∉ es → s.halted = true → runEvents s es = .next t →
    t = { s with dt := t.dt, st := t.st, key := t.key, mem := t.mem }

/-- spec/10_state.md R41: no instruction writes anything outside its write set. -/
def Obligations.InstructionsKeepToTheirWrites : Prop :=
  ∀ (i : Instr) (s t : State), exec i s = .next t → Frame (i.writes s) s t

/-- R27: no instruction reads ST. With another value there the instruction does the same: `Fx18` sets ST to the same value, every
other instruction leaves ST at that other value and all else comes out the same. -/
def Obligations.SoundTimerIsNeverRead : Prop :=
  ∀ (i : Instr) (s t : State) (b : Byte), exec i s = .next t →
    ((∃ x, i = .ldStVx x) → exec i { s with st := b } = .next t) ∧
    ((∀ x, i ≠ .ldStVx x) → exec i { s with st := b } = .next { t with st := b })

/-- spec/60_exceptions.md R237, spec/10_state.md R30, R34: no instruction reads DIRTY, STATUS, ERR_SEEN, ERR_PC or ERR_INSN:
with other values there, all else comes out the same. -/
def Obligations.StatusRegistersAreNeverRead : Prop :=
  ∀ (i : Instr) (s t : State) (d e : Bool) (c : BitVec 3) (p w : Word), exec i s = .next t →
    ∃ u, exec i { s with dirty := d, status := c, errSeen := e, errPc := p, errInsn := w } = .next u ∧
      { u with dirty := t.dirty, status := t.status, errSeen := t.errSeen, errPc := t.errPc, errInsn := t.errInsn } = t

/-- spec/70_reset_and_hazards.md R268 (b) (the spec's decision D32): at a self-jump a step rewrites only DIRTY and STATUS, and
the state after it is a self-jump again; so it stays under any `STEP`s, `TICK`s and `KEYEVENT`s, and only DT, ST, KEY, DIRTY and
STATUS can change. A run has at most one end: the final state is that of the first moment an end condition holds. -/
def Obligations.SelfJumpIsFixedPoint : Prop :=
  (∀ s : State, s.SelfJump →
    step s = .next { s with dirty := false, status := 0 } ∧ State.SelfJump { s with dirty := false, status := 0 }) ∧
  (∀ (es : List Event) (s t : State), Event.reset ∉ es → (∀ bytes, Event.load bytes ∉ es) → s.SelfJump →
    runEvents s es = .next t →
    t.SelfJump ∧ t = { s with dt := t.dt, st := t.st, key := t.key, dirty := t.dirty, status := t.status }) ∧
  (∀ (c : Config) (d : Nat) (es es' : List Event) (t t' : State), RunEnds c d es t → RunEnds c d es' t' → es <+: es' →
    es = es' ∧ t = t')
end

