-- ==== Sys2Proof/Laws/Decode.lean ====
section
/-! SUPPORT. The fields of a word built from fields, and a word rebuilt from its fields (spec/30_encoding.md R92, R93). -/

namespace Sys2Proof

variable (op x y n : Nibble) (kk : Byte) (nnn : Addr12) (w : Word)

/-! ### The bits of a word built from fields (R92) -/

theorem wordNnn_getLsbD (k : Nat) :
    (wordNnn op nnn).getLsbD k = if k < 12 then nnn.getLsbD k else op.getLsbD (k - 12) := by
  refine (BitVec.getLsbD_append (x := op) (y := nnn) (i := k)).trans ?_
  by_cases h : k < 12 <;> simp [h]

theorem wordXkk_getLsbD (k : Nat) :
    (wordXkk op x kk).getLsbD k =
      if k < 8 then kk.getLsbD k else if k < 12 then x.getLsbD (k - 8) else op.getLsbD (k - 12) := by
  refine (BitVec.getLsbD_append (x := op ++ x) (y := kk) (i := k)).trans ?_
  rw [BitVec.getLsbD_append]
  by_cases h : k < 8
  · simp [h]
  · by_cases h' : k < 12
    · simp [h, h', show k - 8 < 4 by omega]
    · simp [h, h', show ¬k - 8 < 4 by omega, show k - 8 - 4 = k - 12 by omega]

theorem wordXyn_getLsbD (k : Nat) :
    (wordXyn op x y n).getLsbD k =
      if k < 4 then n.getLsbD k else if k < 8 then y.getLsbD (k - 4)
      else if k < 12 then x.getLsbD (k - 8) else op.getLsbD (k - 12) := by
  refine (BitVec.getLsbD_append (x := op ++ x ++ y) (y := n) (i := k)).trans ?_
  rw [BitVec.getLsbD_append, BitVec.getLsbD_append]
  by_cases h : k < 4
  · simp [h]
  · by_cases h' : k < 8
    · simp [h, h', show k - 4 < 4 by omega]
    · by_cases h'' : k < 12
      · simp [h, h', h'', show ¬k - 4 < 4 by omega, show k - 4 - 4 = k - 8 by omega, show k - 8 < 4 by omega]
      · simp [h, h', h'', show ¬k - 4 < 4 by omega, show k - 4 - 4 = k - 8 by omega, show ¬k - 8 < 4 by omega,
          show k - 8 - 4 = k - 12 by omega]

/-! ### Format NNN -/

@[simp] theorem fieldOp_wordNnn : fieldOp (wordNnn op nnn) = op := by
  refine BitVec.eq_of_getLsbD_eq fun k hk => ?_
  simp [fieldOp, wordNnn_getLsbD]; grind

@[simp] theorem fieldNnn_wordNnn : fieldNnn (wordNnn op nnn) = nnn := by
  refine BitVec.eq_of_getLsbD_eq fun k hk => ?_
  simp [fieldNnn, wordNnn_getLsbD]; grind

/-! ### Formats XKK and XFN -/

@[simp] theorem fieldOp_wordXkk : fieldOp (wordXkk op x kk) = op := by
  refine BitVec.eq_of_getLsbD_eq fun k hk => ?_
  simp [fieldOp, wordXkk_getLsbD]; grind

@[simp] theorem fieldX_wordXkk : fieldX (wordXkk op x kk) = x := by
  refine BitVec.eq_of_getLsbD_eq fun k hk => ?_
  simp [fieldX, wordXkk_getLsbD]; grind

@[simp] theorem fieldKk_wordXkk : fieldKk (wordXkk op x kk) = kk := by
  refine BitVec.eq_of_getLsbD_eq fun k hk => ?_
  simp [fieldKk, wordXkk_getLsbD]; grind

/-! ### Format XYN -/

@[simp] theorem fieldOp_wordXyn : fieldOp (wordXyn op x y n) = op := by
  refine BitVec.eq_of_getLsbD_eq fun k hk => ?_
  simp [fieldOp, wordXyn_getLsbD]; grind

@[simp] theorem fieldX_wordXyn : fieldX (wordXyn op x y n) = x := by
  refine BitVec.eq_of_getLsbD_eq fun k hk => ?_
  simp [fieldX, wordXyn_getLsbD]; grind

@[simp] theorem fieldY_wordXyn : fieldY (wordXyn op x y n) = y := by
  refine BitVec.eq_of_getLsbD_eq fun k hk => ?_
  simp [fieldY, wordXyn_getLsbD]; grind

@[simp] theorem fieldN_wordXyn : fieldN (wordXyn op x y n) = n := by
  refine BitVec.eq_of_getLsbD_eq fun k hk => ?_
  simp [fieldN, wordXyn_getLsbD]; grind

/-! ### A word is its fields -/

theorem wordNnn_fields : wordNnn (fieldOp w) (fieldNnn w) = w := by
  refine BitVec.eq_of_getLsbD_eq fun k hk => ?_
  rw [wordNnn_getLsbD]
  unfold fieldOp fieldNnn
  interval_cases k <;> simp

theorem wordXkk_fields : wordXkk (fieldOp w) (fieldX w) (fieldKk w) = w := by
  refine BitVec.eq_of_getLsbD_eq fun k hk => ?_
  rw [wordXkk_getLsbD]
  unfold fieldOp fieldX fieldKk
  interval_cases k <;> simp

theorem wordXyn_fields : wordXyn (fieldOp w) (fieldX w) (fieldY w) (fieldN w) = w := by
  refine BitVec.eq_of_getLsbD_eq fun k hk => ?_
  rw [wordXyn_getLsbD]
  unfold fieldOp fieldX fieldY fieldN
  interval_cases k <;> simp

/-! ### Masks (R96): what a row's mask keeps of a word of each format -/

theorem wordNnn_mask : wordNnn op nnn &&& 0xF000#16 = wordNnn op 0 := by
  refine BitVec.eq_of_getLsbD_eq fun k hk => ?_
  rw [BitVec.getLsbD_and, wordNnn_getLsbD, wordNnn_getLsbD]
  interval_cases k <;> simp

theorem wordXkk_mask_op : wordXkk op x kk &&& 0xF000#16 = wordXkk op 0 0 := by
  refine BitVec.eq_of_getLsbD_eq fun k hk => ?_
  rw [BitVec.getLsbD_and, wordXkk_getLsbD, wordXkk_getLsbD]
  interval_cases k <;> simp

theorem wordXkk_mask_fn : wordXkk op x kk &&& 0xF0FF#16 = wordXkk op 0 kk := by
  refine BitVec.eq_of_getLsbD_eq fun k hk => ?_
  rw [BitVec.getLsbD_and, wordXkk_getLsbD, wordXkk_getLsbD]
  interval_cases k <;> simp

theorem wordXyn_mask_op : wordXyn op x y n &&& 0xF000#16 = wordXyn op 0 0 0 := by
  refine BitVec.eq_of_getLsbD_eq fun k hk => ?_
  rw [BitVec.getLsbD_and, wordXyn_getLsbD, wordXyn_getLsbD]
  interval_cases k <;> simp

theorem wordXyn_mask_sub : wordXyn op x y n &&& 0xF00F#16 = wordXyn op 0 0 n := by
  refine BitVec.eq_of_getLsbD_eq fun k hk => ?_
  rw [BitVec.getLsbD_and, wordXyn_getLsbD, wordXyn_getLsbD]
  interval_cases k <;> simp

/-! ### Two bytes and their word (R63) -/

@[simp] theorem highByte_wordOfBytes (hi lo : Byte) : highByte (wordOfBytes hi lo) = hi := by
  refine BitVec.eq_of_getLsbD_eq fun k hk => ?_
  unfold highByte
  rw [BitVec.getLsbD_extractLsb', show wordOfBytes hi lo = hi ++ lo from rfl, BitVec.getLsbD_append]
  simp [hk]

@[simp] theorem lowByte_wordOfBytes (hi lo : Byte) : lowByte (wordOfBytes hi lo) = lo := by
  refine BitVec.eq_of_getLsbD_eq fun k hk => ?_
  unfold lowByte
  rw [BitVec.getLsbD_extractLsb', show wordOfBytes hi lo = hi ++ lo from rfl, BitVec.getLsbD_append]
  simp [hk]

@[simp] theorem wordOfBytes_high_low : wordOfBytes (highByte w) (lowByte w) = w := by
  refine BitVec.eq_of_getLsbD_eq fun k hk => ?_
  refine (BitVec.getLsbD_append (x := highByte w) (y := lowByte w) (i := k)).trans ?_
  unfold highByte lowByte
  interval_cases k <;> simp

end Sys2Proof
end

