-- ==== Sys2Proof/Laws/State.lean ====
section
/-! SUPPORT. One lemma per field of `State` per named update, so that no later proof unfolds a record update; then the views
`reg` and `readByte` of the updates that touch neither registers nor memory. -/

namespace Sys2Proof.Machine

variable (s : State)

/-! ### `setReg` -/

@[simp] theorem State.setReg_v (x : Reg) (b : Byte) : (s.setReg x b).v = s.v.set x.toNat b := rfl
@[simp] theorem State.setReg_i (x : Reg) (b : Byte) : (s.setReg x b).i = s.i := rfl
@[simp] theorem State.setReg_pc (x : Reg) (b : Byte) : (s.setReg x b).pc = s.pc := rfl
@[simp] theorem State.setReg_sp (x : Reg) (b : Byte) : (s.setReg x b).sp = s.sp := rfl
@[simp] theorem State.setReg_stack (x : Reg) (b : Byte) : (s.setReg x b).stack = s.stack := rfl
@[simp] theorem State.setReg_dt (x : Reg) (b : Byte) : (s.setReg x b).dt = s.dt := rfl
@[simp] theorem State.setReg_st (x : Reg) (b : Byte) : (s.setReg x b).st = s.st := rfl
@[simp] theorem State.setReg_mem (x : Reg) (b : Byte) : (s.setReg x b).mem = s.mem := rfl
@[simp] theorem State.setReg_fb (x : Reg) (b : Byte) : (s.setReg x b).fb = s.fb := rfl
@[simp] theorem State.setReg_dirty (x : Reg) (b : Byte) : (s.setReg x b).dirty = s.dirty := rfl
@[simp] theorem State.setReg_halted (x : Reg) (b : Byte) : (s.setReg x b).halted = s.halted := rfl
@[simp] theorem State.setReg_status (x : Reg) (b : Byte) : (s.setReg x b).status = s.status := rfl
@[simp] theorem State.setReg_errSeen (x : Reg) (b : Byte) : (s.setReg x b).errSeen = s.errSeen := rfl
@[simp] theorem State.setReg_errPc (x : Reg) (b : Byte) : (s.setReg x b).errPc = s.errPc := rfl
@[simp] theorem State.setReg_errInsn (x : Reg) (b : Byte) : (s.setReg x b).errInsn = s.errInsn := rfl
@[simp] theorem State.setReg_awaiting (x : Reg) (b : Byte) : (s.setReg x b).awaiting = s.awaiting := rfl
@[simp] theorem State.setReg_keyPrev (x : Reg) (b : Byte) : (s.setReg x b).keyPrev = s.keyPrev := rfl
@[simp] theorem State.setReg_key (x : Reg) (b : Byte) : (s.setReg x b).key = s.key := rfl
@[simp] theorem State.setReg_cfg (x : Reg) (b : Byte) : (s.setReg x b).cfg = s.cfg := rfl
@[simp] theorem State.setReg_draws (x : Reg) (b : Byte) : (s.setReg x b).draws = s.draws := rfl
@[simp] theorem State.setReg_readByte (x : Reg) (b : Byte) (d : Nat) : (s.setReg x b).readByte d = s.readByte d := rfl

/-! ### `setFlagThenReg` -/

@[simp] theorem State.setFlagThenReg_v (x : Reg) (f b : Byte) : (s.setFlagThenReg x f b).v = (s.v.set vf.toNat f).set x.toNat b := rfl
@[simp] theorem State.setFlagThenReg_i (x : Reg) (f b : Byte) : (s.setFlagThenReg x f b).i = s.i := rfl
@[simp] theorem State.setFlagThenReg_pc (x : Reg) (f b : Byte) : (s.setFlagThenReg x f b).pc = s.pc := rfl
@[simp] theorem State.setFlagThenReg_sp (x : Reg) (f b : Byte) : (s.setFlagThenReg x f b).sp = s.sp := rfl
@[simp] theorem State.setFlagThenReg_stack (x : Reg) (f b : Byte) : (s.setFlagThenReg x f b).stack = s.stack := rfl
@[simp] theorem State.setFlagThenReg_dt (x : Reg) (f b : Byte) : (s.setFlagThenReg x f b).dt = s.dt := rfl
@[simp] theorem State.setFlagThenReg_st (x : Reg) (f b : Byte) : (s.setFlagThenReg x f b).st = s.st := rfl
@[simp] theorem State.setFlagThenReg_mem (x : Reg) (f b : Byte) : (s.setFlagThenReg x f b).mem = s.mem := rfl
@[simp] theorem State.setFlagThenReg_fb (x : Reg) (f b : Byte) : (s.setFlagThenReg x f b).fb = s.fb := rfl
@[simp] theorem State.setFlagThenReg_dirty (x : Reg) (f b : Byte) : (s.setFlagThenReg x f b).dirty = s.dirty := rfl
@[simp] theorem State.setFlagThenReg_halted (x : Reg) (f b : Byte) : (s.setFlagThenReg x f b).halted = s.halted := rfl
@[simp] theorem State.setFlagThenReg_status (x : Reg) (f b : Byte) : (s.setFlagThenReg x f b).status = s.status := rfl
@[simp] theorem State.setFlagThenReg_errSeen (x : Reg) (f b : Byte) : (s.setFlagThenReg x f b).errSeen = s.errSeen := rfl
@[simp] theorem State.setFlagThenReg_errPc (x : Reg) (f b : Byte) : (s.setFlagThenReg x f b).errPc = s.errPc := rfl
@[simp] theorem State.setFlagThenReg_errInsn (x : Reg) (f b : Byte) : (s.setFlagThenReg x f b).errInsn = s.errInsn := rfl
@[simp] theorem State.setFlagThenReg_awaiting (x : Reg) (f b : Byte) : (s.setFlagThenReg x f b).awaiting = s.awaiting := rfl
@[simp] theorem State.setFlagThenReg_keyPrev (x : Reg) (f b : Byte) : (s.setFlagThenReg x f b).keyPrev = s.keyPrev := rfl
@[simp] theorem State.setFlagThenReg_key (x : Reg) (f b : Byte) : (s.setFlagThenReg x f b).key = s.key := rfl
@[simp] theorem State.setFlagThenReg_cfg (x : Reg) (f b : Byte) : (s.setFlagThenReg x f b).cfg = s.cfg := rfl
@[simp] theorem State.setFlagThenReg_draws (x : Reg) (f b : Byte) : (s.setFlagThenReg x f b).draws = s.draws := rfl
@[simp] theorem State.setFlagThenReg_readByte (x : Reg) (f b : Byte) (d : Nat) : (s.setFlagThenReg x f b).readByte d = s.readByte d := rfl

/-! ### `setI` -/

@[simp] theorem State.setI_v (w : Word) : (s.setI w).v = s.v := rfl
@[simp] theorem State.setI_i (w : Word) : (s.setI w).i = w := rfl
@[simp] theorem State.setI_pc (w : Word) : (s.setI w).pc = s.pc := rfl
@[simp] theorem State.setI_sp (w : Word) : (s.setI w).sp = s.sp := rfl
@[simp] theorem State.setI_stack (w : Word) : (s.setI w).stack = s.stack := rfl
@[simp] theorem State.setI_dt (w : Word) : (s.setI w).dt = s.dt := rfl
@[simp] theorem State.setI_st (w : Word) : (s.setI w).st = s.st := rfl
@[simp] theorem State.setI_mem (w : Word) : (s.setI w).mem = s.mem := rfl
@[simp] theorem State.setI_fb (w : Word) : (s.setI w).fb = s.fb := rfl
@[simp] theorem State.setI_dirty (w : Word) : (s.setI w).dirty = s.dirty := rfl
@[simp] theorem State.setI_halted (w : Word) : (s.setI w).halted = s.halted := rfl
@[simp] theorem State.setI_status (w : Word) : (s.setI w).status = s.status := rfl
@[simp] theorem State.setI_errSeen (w : Word) : (s.setI w).errSeen = s.errSeen := rfl
@[simp] theorem State.setI_errPc (w : Word) : (s.setI w).errPc = s.errPc := rfl
@[simp] theorem State.setI_errInsn (w : Word) : (s.setI w).errInsn = s.errInsn := rfl
@[simp] theorem State.setI_awaiting (w : Word) : (s.setI w).awaiting = s.awaiting := rfl
@[simp] theorem State.setI_keyPrev (w : Word) : (s.setI w).keyPrev = s.keyPrev := rfl
@[simp] theorem State.setI_key (w : Word) : (s.setI w).key = s.key := rfl
@[simp] theorem State.setI_cfg (w : Word) : (s.setI w).cfg = s.cfg := rfl
@[simp] theorem State.setI_draws (w : Word) : (s.setI w).draws = s.draws := rfl
@[simp] theorem State.setI_reg (w : Word) (y : Reg) : (s.setI w).reg y = s.reg y := rfl
@[simp] theorem State.setI_readByte (w : Word) (d : Nat) : (s.setI w).readByte d = s.readByte d := rfl

/-! ### `setPc` -/

@[simp] theorem State.setPc_v (w : Word) : (s.setPc w).v = s.v := rfl
@[simp] theorem State.setPc_i (w : Word) : (s.setPc w).i = s.i := rfl
@[simp] theorem State.setPc_pc (w : Word) : (s.setPc w).pc = w := rfl
@[simp] theorem State.setPc_sp (w : Word) : (s.setPc w).sp = s.sp := rfl
@[simp] theorem State.setPc_stack (w : Word) : (s.setPc w).stack = s.stack := rfl
@[simp] theorem State.setPc_dt (w : Word) : (s.setPc w).dt = s.dt := rfl
@[simp] theorem State.setPc_st (w : Word) : (s.setPc w).st = s.st := rfl
@[simp] theorem State.setPc_mem (w : Word) : (s.setPc w).mem = s.mem := rfl
@[simp] theorem State.setPc_fb (w : Word) : (s.setPc w).fb = s.fb := rfl
@[simp] theorem State.setPc_dirty (w : Word) : (s.setPc w).dirty = s.dirty := rfl
@[simp] theorem State.setPc_halted (w : Word) : (s.setPc w).halted = s.halted := rfl
@[simp] theorem State.setPc_status (w : Word) : (s.setPc w).status = s.status := rfl
@[simp] theorem State.setPc_errSeen (w : Word) : (s.setPc w).errSeen = s.errSeen := rfl
@[simp] theorem State.setPc_errPc (w : Word) : (s.setPc w).errPc = s.errPc := rfl
@[simp] theorem State.setPc_errInsn (w : Word) : (s.setPc w).errInsn = s.errInsn := rfl
@[simp] theorem State.setPc_awaiting (w : Word) : (s.setPc w).awaiting = s.awaiting := rfl
@[simp] theorem State.setPc_keyPrev (w : Word) : (s.setPc w).keyPrev = s.keyPrev := rfl
@[simp] theorem State.setPc_key (w : Word) : (s.setPc w).key = s.key := rfl
@[simp] theorem State.setPc_cfg (w : Word) : (s.setPc w).cfg = s.cfg := rfl
@[simp] theorem State.setPc_draws (w : Word) : (s.setPc w).draws = s.draws := rfl
@[simp] theorem State.setPc_reg (w : Word) (y : Reg) : (s.setPc w).reg y = s.reg y := rfl
@[simp] theorem State.setPc_readByte (w : Word) (d : Nat) : (s.setPc w).readByte d = s.readByte d := rfl

/-! ### `advance` -/

@[simp] theorem State.advance_v : s.advance.v = s.v := rfl
@[simp] theorem State.advance_i : s.advance.i = s.i := rfl
@[simp] theorem State.advance_pc : s.advance.pc = s.pc + 2 := rfl
@[simp] theorem State.advance_sp : s.advance.sp = s.sp := rfl
@[simp] theorem State.advance_stack : s.advance.stack = s.stack := rfl
@[simp] theorem State.advance_dt : s.advance.dt = s.dt := rfl
@[simp] theorem State.advance_st : s.advance.st = s.st := rfl
@[simp] theorem State.advance_mem : s.advance.mem = s.mem := rfl
@[simp] theorem State.advance_fb : s.advance.fb = s.fb := rfl
@[simp] theorem State.advance_dirty : s.advance.dirty = s.dirty := rfl
@[simp] theorem State.advance_halted : s.advance.halted = s.halted := rfl
@[simp] theorem State.advance_status : s.advance.status = s.status := rfl
@[simp] theorem State.advance_errSeen : s.advance.errSeen = s.errSeen := rfl
@[simp] theorem State.advance_errPc : s.advance.errPc = s.errPc := rfl
@[simp] theorem State.advance_errInsn : s.advance.errInsn = s.errInsn := rfl
@[simp] theorem State.advance_awaiting : s.advance.awaiting = s.awaiting := rfl
@[simp] theorem State.advance_keyPrev : s.advance.keyPrev = s.keyPrev := rfl
@[simp] theorem State.advance_key : s.advance.key = s.key := rfl
@[simp] theorem State.advance_cfg : s.advance.cfg = s.cfg := rfl
@[simp] theorem State.advance_draws : s.advance.draws = s.draws := rfl
@[simp] theorem State.advance_reg (y : Reg) : s.advance.reg y = s.reg y := rfl
@[simp] theorem State.advance_readByte (d : Nat) : s.advance.readByte d = s.readByte d := rfl

/-! ### `skip` -/

@[simp] theorem State.skip_v : s.skip.v = s.v := rfl
@[simp] theorem State.skip_i : s.skip.i = s.i := rfl
@[simp] theorem State.skip_pc : s.skip.pc = s.pc + 4 := rfl
@[simp] theorem State.skip_sp : s.skip.sp = s.sp := rfl
@[simp] theorem State.skip_stack : s.skip.stack = s.stack := rfl
@[simp] theorem State.skip_dt : s.skip.dt = s.dt := rfl
@[simp] theorem State.skip_st : s.skip.st = s.st := rfl
@[simp] theorem State.skip_mem : s.skip.mem = s.mem := rfl
@[simp] theorem State.skip_fb : s.skip.fb = s.fb := rfl
@[simp] theorem State.skip_dirty : s.skip.dirty = s.dirty := rfl
@[simp] theorem State.skip_halted : s.skip.halted = s.halted := rfl
@[simp] theorem State.skip_status : s.skip.status = s.status := rfl
@[simp] theorem State.skip_errSeen : s.skip.errSeen = s.errSeen := rfl
@[simp] theorem State.skip_errPc : s.skip.errPc = s.errPc := rfl
@[simp] theorem State.skip_errInsn : s.skip.errInsn = s.errInsn := rfl
@[simp] theorem State.skip_awaiting : s.skip.awaiting = s.awaiting := rfl
@[simp] theorem State.skip_keyPrev : s.skip.keyPrev = s.keyPrev := rfl
@[simp] theorem State.skip_key : s.skip.key = s.key := rfl
@[simp] theorem State.skip_cfg : s.skip.cfg = s.cfg := rfl
@[simp] theorem State.skip_draws : s.skip.draws = s.draws := rfl
@[simp] theorem State.skip_reg (y : Reg) : s.skip.reg y = s.reg y := rfl
@[simp] theorem State.skip_readByte (d : Nat) : s.skip.readByte d = s.readByte d := rfl

/-! ### `skipIf` -/

@[simp] theorem State.skipIf_v (b : Bool) : (s.skipIf b).v = s.v := by cases b <;> rfl
@[simp] theorem State.skipIf_i (b : Bool) : (s.skipIf b).i = s.i := by cases b <;> rfl
@[simp] theorem State.skipIf_pc (b : Bool) : (s.skipIf b).pc = if b then s.pc + 4 else s.pc + 2 := by cases b <;> rfl
@[simp] theorem State.skipIf_sp (b : Bool) : (s.skipIf b).sp = s.sp := by cases b <;> rfl
@[simp] theorem State.skipIf_stack (b : Bool) : (s.skipIf b).stack = s.stack := by cases b <;> rfl
@[simp] theorem State.skipIf_dt (b : Bool) : (s.skipIf b).dt = s.dt := by cases b <;> rfl
@[simp] theorem State.skipIf_st (b : Bool) : (s.skipIf b).st = s.st := by cases b <;> rfl
@[simp] theorem State.skipIf_mem (b : Bool) : (s.skipIf b).mem = s.mem := by cases b <;> rfl
@[simp] theorem State.skipIf_fb (b : Bool) : (s.skipIf b).fb = s.fb := by cases b <;> rfl
@[simp] theorem State.skipIf_dirty (b : Bool) : (s.skipIf b).dirty = s.dirty := by cases b <;> rfl
@[simp] theorem State.skipIf_halted (b : Bool) : (s.skipIf b).halted = s.halted := by cases b <;> rfl
@[simp] theorem State.skipIf_status (b : Bool) : (s.skipIf b).status = s.status := by cases b <;> rfl
@[simp] theorem State.skipIf_errSeen (b : Bool) : (s.skipIf b).errSeen = s.errSeen := by cases b <;> rfl
@[simp] theorem State.skipIf_errPc (b : Bool) : (s.skipIf b).errPc = s.errPc := by cases b <;> rfl
@[simp] theorem State.skipIf_errInsn (b : Bool) : (s.skipIf b).errInsn = s.errInsn := by cases b <;> rfl
@[simp] theorem State.skipIf_awaiting (b : Bool) : (s.skipIf b).awaiting = s.awaiting := by cases b <;> rfl
@[simp] theorem State.skipIf_keyPrev (b : Bool) : (s.skipIf b).keyPrev = s.keyPrev := by cases b <;> rfl
@[simp] theorem State.skipIf_key (b : Bool) : (s.skipIf b).key = s.key := by cases b <;> rfl
@[simp] theorem State.skipIf_cfg (b : Bool) : (s.skipIf b).cfg = s.cfg := by cases b <;> rfl
@[simp] theorem State.skipIf_draws (b : Bool) : (s.skipIf b).draws = s.draws := by cases b <;> rfl
@[simp] theorem State.skipIf_reg (b : Bool) (y : Reg) : (s.skipIf b).reg y = s.reg y := by cases b <;> rfl
@[simp] theorem State.skipIf_readByte (b : Bool) (d : Nat) : (s.skipIf b).readByte d = s.readByte d := by cases b <;> rfl

/-! ### `setDt` -/

@[simp] theorem State.setDt_v (b : Byte) : (s.setDt b).v = s.v := rfl
@[simp] theorem State.setDt_i (b : Byte) : (s.setDt b).i = s.i := rfl
@[simp] theorem State.setDt_pc (b : Byte) : (s.setDt b).pc = s.pc := rfl
@[simp] theorem State.setDt_sp (b : Byte) : (s.setDt b).sp = s.sp := rfl
@[simp] theorem State.setDt_stack (b : Byte) : (s.setDt b).stack = s.stack := rfl
@[simp] theorem State.setDt_dt (b : Byte) : (s.setDt b).dt = b := rfl
@[simp] theorem State.setDt_st (b : Byte) : (s.setDt b).st = s.st := rfl
@[simp] theorem State.setDt_mem (b : Byte) : (s.setDt b).mem = s.mem := rfl
@[simp] theorem State.setDt_fb (b : Byte) : (s.setDt b).fb = s.fb := rfl
@[simp] theorem State.setDt_dirty (b : Byte) : (s.setDt b).dirty = s.dirty := rfl
@[simp] theorem State.setDt_halted (b : Byte) : (s.setDt b).halted = s.halted := rfl
@[simp] theorem State.setDt_status (b : Byte) : (s.setDt b).status = s.status := rfl
@[simp] theorem State.setDt_errSeen (b : Byte) : (s.setDt b).errSeen = s.errSeen := rfl
@[simp] theorem State.setDt_errPc (b : Byte) : (s.setDt b).errPc = s.errPc := rfl
@[simp] theorem State.setDt_errInsn (b : Byte) : (s.setDt b).errInsn = s.errInsn := rfl
@[simp] theorem State.setDt_awaiting (b : Byte) : (s.setDt b).awaiting = s.awaiting := rfl
@[simp] theorem State.setDt_keyPrev (b : Byte) : (s.setDt b).keyPrev = s.keyPrev := rfl
@[simp] theorem State.setDt_key (b : Byte) : (s.setDt b).key = s.key := rfl
@[simp] theorem State.setDt_cfg (b : Byte) : (s.setDt b).cfg = s.cfg := rfl
@[simp] theorem State.setDt_draws (b : Byte) : (s.setDt b).draws = s.draws := rfl
@[simp] theorem State.setDt_reg (b : Byte) (y : Reg) : (s.setDt b).reg y = s.reg y := rfl
@[simp] theorem State.setDt_readByte (b : Byte) (d : Nat) : (s.setDt b).readByte d = s.readByte d := rfl

/-! ### `setSt` -/

@[simp] theorem State.setSt_v (b : Byte) : (s.setSt b).v = s.v := rfl
@[simp] theorem State.setSt_i (b : Byte) : (s.setSt b).i = s.i := rfl
@[simp] theorem State.setSt_pc (b : Byte) : (s.setSt b).pc = s.pc := rfl
@[simp] theorem State.setSt_sp (b : Byte) : (s.setSt b).sp = s.sp := rfl
@[simp] theorem State.setSt_stack (b : Byte) : (s.setSt b).stack = s.stack := rfl
@[simp] theorem State.setSt_dt (b : Byte) : (s.setSt b).dt = s.dt := rfl
@[simp] theorem State.setSt_st (b : Byte) : (s.setSt b).st = b := rfl
@[simp] theorem State.setSt_mem (b : Byte) : (s.setSt b).mem = s.mem := rfl
@[simp] theorem State.setSt_fb (b : Byte) : (s.setSt b).fb = s.fb := rfl
@[simp] theorem State.setSt_dirty (b : Byte) : (s.setSt b).dirty = s.dirty := rfl
@[simp] theorem State.setSt_halted (b : Byte) : (s.setSt b).halted = s.halted := rfl
@[simp] theorem State.setSt_status (b : Byte) : (s.setSt b).status = s.status := rfl
@[simp] theorem State.setSt_errSeen (b : Byte) : (s.setSt b).errSeen = s.errSeen := rfl
@[simp] theorem State.setSt_errPc (b : Byte) : (s.setSt b).errPc = s.errPc := rfl
@[simp] theorem State.setSt_errInsn (b : Byte) : (s.setSt b).errInsn = s.errInsn := rfl
@[simp] theorem State.setSt_awaiting (b : Byte) : (s.setSt b).awaiting = s.awaiting := rfl
@[simp] theorem State.setSt_keyPrev (b : Byte) : (s.setSt b).keyPrev = s.keyPrev := rfl
@[simp] theorem State.setSt_key (b : Byte) : (s.setSt b).key = s.key := rfl
@[simp] theorem State.setSt_cfg (b : Byte) : (s.setSt b).cfg = s.cfg := rfl
@[simp] theorem State.setSt_draws (b : Byte) : (s.setSt b).draws = s.draws := rfl
@[simp] theorem State.setSt_reg (b : Byte) (y : Reg) : (s.setSt b).reg y = s.reg y := rfl
@[simp] theorem State.setSt_readByte (b : Byte) (d : Nat) : (s.setSt b).readByte d = s.readByte d := rfl

/-! ### `writeByte` -/

@[simp] theorem State.writeByte_v (a : Nat) (b : Byte) : (s.writeByte a b).v = s.v := rfl
@[simp] theorem State.writeByte_i (a : Nat) (b : Byte) : (s.writeByte a b).i = s.i := rfl
@[simp] theorem State.writeByte_pc (a : Nat) (b : Byte) : (s.writeByte a b).pc = s.pc := rfl
@[simp] theorem State.writeByte_sp (a : Nat) (b : Byte) : (s.writeByte a b).sp = s.sp := rfl
@[simp] theorem State.writeByte_stack (a : Nat) (b : Byte) : (s.writeByte a b).stack = s.stack := rfl
@[simp] theorem State.writeByte_dt (a : Nat) (b : Byte) : (s.writeByte a b).dt = s.dt := rfl
@[simp] theorem State.writeByte_st (a : Nat) (b : Byte) : (s.writeByte a b).st = s.st := rfl
@[simp] theorem State.writeByte_mem (a : Nat) (b : Byte) : (s.writeByte a b).mem = s.mem.write s.cfg.resetByte a b := rfl
@[simp] theorem State.writeByte_fb (a : Nat) (b : Byte) : (s.writeByte a b).fb = s.fb := rfl
@[simp] theorem State.writeByte_dirty (a : Nat) (b : Byte) : (s.writeByte a b).dirty = s.dirty := rfl
@[simp] theorem State.writeByte_halted (a : Nat) (b : Byte) : (s.writeByte a b).halted = s.halted := rfl
@[simp] theorem State.writeByte_status (a : Nat) (b : Byte) : (s.writeByte a b).status = s.status := rfl
@[simp] theorem State.writeByte_errSeen (a : Nat) (b : Byte) : (s.writeByte a b).errSeen = s.errSeen := rfl
@[simp] theorem State.writeByte_errPc (a : Nat) (b : Byte) : (s.writeByte a b).errPc = s.errPc := rfl
@[simp] theorem State.writeByte_errInsn (a : Nat) (b : Byte) : (s.writeByte a b).errInsn = s.errInsn := rfl
@[simp] theorem State.writeByte_awaiting (a : Nat) (b : Byte) : (s.writeByte a b).awaiting = s.awaiting := rfl
@[simp] theorem State.writeByte_keyPrev (a : Nat) (b : Byte) : (s.writeByte a b).keyPrev = s.keyPrev := rfl
@[simp] theorem State.writeByte_key (a : Nat) (b : Byte) : (s.writeByte a b).key = s.key := rfl
@[simp] theorem State.writeByte_cfg (a : Nat) (b : Byte) : (s.writeByte a b).cfg = s.cfg := rfl
@[simp] theorem State.writeByte_draws (a : Nat) (b : Byte) : (s.writeByte a b).draws = s.draws := rfl
@[simp] theorem State.writeByte_reg (a : Nat) (b : Byte) (y : Reg) : (s.writeByte a b).reg y = s.reg y := rfl

/-! ### `setScreen` -/

@[simp] theorem State.setScreen_v (f : Framebuffer) : (s.setScreen f).v = s.v := rfl
@[simp] theorem State.setScreen_i (f : Framebuffer) : (s.setScreen f).i = s.i := rfl
@[simp] theorem State.setScreen_pc (f : Framebuffer) : (s.setScreen f).pc = s.pc := rfl
@[simp] theorem State.setScreen_sp (f : Framebuffer) : (s.setScreen f).sp = s.sp := rfl
@[simp] theorem State.setScreen_stack (f : Framebuffer) : (s.setScreen f).stack = s.stack := rfl
@[simp] theorem State.setScreen_dt (f : Framebuffer) : (s.setScreen f).dt = s.dt := rfl
@[simp] theorem State.setScreen_st (f : Framebuffer) : (s.setScreen f).st = s.st := rfl
@[simp] theorem State.setScreen_mem (f : Framebuffer) : (s.setScreen f).mem = s.mem := rfl
@[simp] theorem State.setScreen_fb (f : Framebuffer) : (s.setScreen f).fb = f := rfl
@[simp] theorem State.setScreen_dirty (f : Framebuffer) : (s.setScreen f).dirty = true := rfl
@[simp] theorem State.setScreen_halted (f : Framebuffer) : (s.setScreen f).halted = s.halted := rfl
@[simp] theorem State.setScreen_status (f : Framebuffer) : (s.setScreen f).status = s.status := rfl
@[simp] theorem State.setScreen_errSeen (f : Framebuffer) : (s.setScreen f).errSeen = s.errSeen := rfl
@[simp] theorem State.setScreen_errPc (f : Framebuffer) : (s.setScreen f).errPc = s.errPc := rfl
@[simp] theorem State.setScreen_errInsn (f : Framebuffer) : (s.setScreen f).errInsn = s.errInsn := rfl
@[simp] theorem State.setScreen_awaiting (f : Framebuffer) : (s.setScreen f).awaiting = s.awaiting := rfl
@[simp] theorem State.setScreen_keyPrev (f : Framebuffer) : (s.setScreen f).keyPrev = s.keyPrev := rfl
@[simp] theorem State.setScreen_key (f : Framebuffer) : (s.setScreen f).key = s.key := rfl
@[simp] theorem State.setScreen_cfg (f : Framebuffer) : (s.setScreen f).cfg = s.cfg := rfl
@[simp] theorem State.setScreen_draws (f : Framebuffer) : (s.setScreen f).draws = s.draws := rfl
@[simp] theorem State.setScreen_reg (f : Framebuffer) (y : Reg) : (s.setScreen f).reg y = s.reg y := rfl
@[simp] theorem State.setScreen_readByte (f : Framebuffer) (d : Nat) : (s.setScreen f).readByte d = s.readByte d := rfl

/-! ### `setWait` -/

@[simp] theorem State.setWait_v (a : Bool) (k : Word) : (s.setWait a k).v = s.v := rfl
@[simp] theorem State.setWait_i (a : Bool) (k : Word) : (s.setWait a k).i = s.i := rfl
@[simp] theorem State.setWait_pc (a : Bool) (k : Word) : (s.setWait a k).pc = s.pc := rfl
@[simp] theorem State.setWait_sp (a : Bool) (k : Word) : (s.setWait a k).sp = s.sp := rfl
@[simp] theorem State.setWait_stack (a : Bool) (k : Word) : (s.setWait a k).stack = s.stack := rfl
@[simp] theorem State.setWait_dt (a : Bool) (k : Word) : (s.setWait a k).dt = s.dt := rfl
@[simp] theorem State.setWait_st (a : Bool) (k : Word) : (s.setWait a k).st = s.st := rfl
@[simp] theorem State.setWait_mem (a : Bool) (k : Word) : (s.setWait a k).mem = s.mem := rfl
@[simp] theorem State.setWait_fb (a : Bool) (k : Word) : (s.setWait a k).fb = s.fb := rfl
@[simp] theorem State.setWait_dirty (a : Bool) (k : Word) : (s.setWait a k).dirty = s.dirty := rfl
@[simp] theorem State.setWait_halted (a : Bool) (k : Word) : (s.setWait a k).halted = s.halted := rfl
@[simp] theorem State.setWait_status (a : Bool) (k : Word) : (s.setWait a k).status = s.status := rfl
@[simp] theorem State.setWait_errSeen (a : Bool) (k : Word) : (s.setWait a k).errSeen = s.errSeen := rfl
@[simp] theorem State.setWait_errPc (a : Bool) (k : Word) : (s.setWait a k).errPc = s.errPc := rfl
@[simp] theorem State.setWait_errInsn (a : Bool) (k : Word) : (s.setWait a k).errInsn = s.errInsn := rfl
@[simp] theorem State.setWait_awaiting (a : Bool) (k : Word) : (s.setWait a k).awaiting = a := rfl
@[simp] theorem State.setWait_keyPrev (a : Bool) (k : Word) : (s.setWait a k).keyPrev = k := rfl
@[simp] theorem State.setWait_key (a : Bool) (k : Word) : (s.setWait a k).key = s.key := rfl
@[simp] theorem State.setWait_cfg (a : Bool) (k : Word) : (s.setWait a k).cfg = s.cfg := rfl
@[simp] theorem State.setWait_draws (a : Bool) (k : Word) : (s.setWait a k).draws = s.draws := rfl
@[simp] theorem State.setWait_reg (a : Bool) (k : Word) (y : Reg) : (s.setWait a k).reg y = s.reg y := rfl
@[simp] theorem State.setWait_readByte (a : Bool) (k : Word) (d : Nat) : (s.setWait a k).readByte d = s.readByte d := rfl

/-! ### `countDraw` -/

@[simp] theorem State.countDraw_v : s.countDraw.v = s.v := rfl
@[simp] theorem State.countDraw_i : s.countDraw.i = s.i := rfl
@[simp] theorem State.countDraw_pc : s.countDraw.pc = s.pc := rfl
@[simp] theorem State.countDraw_sp : s.countDraw.sp = s.sp := rfl
@[simp] theorem State.countDraw_stack : s.countDraw.stack = s.stack := rfl
@[simp] theorem State.countDraw_dt : s.countDraw.dt = s.dt := rfl
@[simp] theorem State.countDraw_st : s.countDraw.st = s.st := rfl
@[simp] theorem State.countDraw_mem : s.countDraw.mem = s.mem := rfl
@[simp] theorem State.countDraw_fb : s.countDraw.fb = s.fb := rfl
@[simp] theorem State.countDraw_dirty : s.countDraw.dirty = s.dirty := rfl
@[simp] theorem State.countDraw_halted : s.countDraw.halted = s.halted := rfl
@[simp] theorem State.countDraw_status : s.countDraw.status = s.status := rfl
@[simp] theorem State.countDraw_errSeen : s.countDraw.errSeen = s.errSeen := rfl
@[simp] theorem State.countDraw_errPc : s.countDraw.errPc = s.errPc := rfl
@[simp] theorem State.countDraw_errInsn : s.countDraw.errInsn = s.errInsn := rfl
@[simp] theorem State.countDraw_awaiting : s.countDraw.awaiting = s.awaiting := rfl
@[simp] theorem State.countDraw_keyPrev : s.countDraw.keyPrev = s.keyPrev := rfl
@[simp] theorem State.countDraw_key : s.countDraw.key = s.key := rfl
@[simp] theorem State.countDraw_cfg : s.countDraw.cfg = s.cfg := rfl
@[simp] theorem State.countDraw_draws : s.countDraw.draws = s.draws + 1 := rfl
@[simp] theorem State.countDraw_reg (y : Reg) : s.countDraw.reg y = s.reg y := rfl
@[simp] theorem State.countDraw_readByte (d : Nat) : s.countDraw.readByte d = s.readByte d := rfl

/-! ### `raise` -/

@[simp] theorem State.raise_v (c : Cause) (w : Word) : (s.raise c w).v = s.v := rfl
@[simp] theorem State.raise_i (c : Cause) (w : Word) : (s.raise c w).i = s.i := rfl
@[simp] theorem State.raise_pc (c : Cause) (w : Word) : (s.raise c w).pc = if c.skips s.cfg then s.pc + 2 else s.pc := rfl
@[simp] theorem State.raise_sp (c : Cause) (w : Word) : (s.raise c w).sp = s.sp := rfl
@[simp] theorem State.raise_stack (c : Cause) (w : Word) : (s.raise c w).stack = s.stack := rfl
@[simp] theorem State.raise_dt (c : Cause) (w : Word) : (s.raise c w).dt = s.dt := rfl
@[simp] theorem State.raise_st (c : Cause) (w : Word) : (s.raise c w).st = s.st := rfl
@[simp] theorem State.raise_mem (c : Cause) (w : Word) : (s.raise c w).mem = s.mem := rfl
@[simp] theorem State.raise_fb (c : Cause) (w : Word) : (s.raise c w).fb = s.fb := rfl
@[simp] theorem State.raise_dirty (c : Cause) (w : Word) : (s.raise c w).dirty = s.dirty := rfl
@[simp] theorem State.raise_halted (c : Cause) (w : Word) : (s.raise c w).halted = if c.skips s.cfg then s.halted else true := rfl
@[simp] theorem State.raise_status (c : Cause) (w : Word) : (s.raise c w).status = c.code := rfl
@[simp] theorem State.raise_errSeen (c : Cause) (w : Word) : (s.raise c w).errSeen = true := rfl
@[simp] theorem State.raise_errPc (c : Cause) (w : Word) : (s.raise c w).errPc = s.pc := rfl
@[simp] theorem State.raise_errInsn (c : Cause) (w : Word) : (s.raise c w).errInsn = c.recordedWord w := rfl
@[simp] theorem State.raise_awaiting (c : Cause) (w : Word) : (s.raise c w).awaiting = s.awaiting := rfl
@[simp] theorem State.raise_keyPrev (c : Cause) (w : Word) : (s.raise c w).keyPrev = s.keyPrev := rfl
@[simp] theorem State.raise_key (c : Cause) (w : Word) : (s.raise c w).key = s.key := rfl
@[simp] theorem State.raise_cfg (c : Cause) (w : Word) : (s.raise c w).cfg = s.cfg := rfl
@[simp] theorem State.raise_draws (c : Cause) (w : Word) : (s.raise c w).draws = s.draws := rfl
@[simp] theorem State.raise_reg (c : Cause) (w : Word) (y : Reg) : (s.raise c w).reg y = s.reg y := rfl
@[simp] theorem State.raise_readByte (c : Cause) (w : Word) (d : Nat) : (s.raise c w).readByte d = s.readByte d := rfl

/-! ### `beginStep` -/

@[simp] theorem State.beginStep_v : s.beginStep.v = s.v := rfl
@[simp] theorem State.beginStep_i : s.beginStep.i = s.i := rfl
@[simp] theorem State.beginStep_pc : s.beginStep.pc = s.pc := rfl
@[simp] theorem State.beginStep_sp : s.beginStep.sp = s.sp := rfl
@[simp] theorem State.beginStep_stack : s.beginStep.stack = s.stack := rfl
@[simp] theorem State.beginStep_dt : s.beginStep.dt = s.dt := rfl
@[simp] theorem State.beginStep_st : s.beginStep.st = s.st := rfl
@[simp] theorem State.beginStep_mem : s.beginStep.mem = s.mem := rfl
@[simp] theorem State.beginStep_fb : s.beginStep.fb = s.fb := rfl
@[simp] theorem State.beginStep_dirty : s.beginStep.dirty = false := rfl
@[simp] theorem State.beginStep_halted : s.beginStep.halted = s.halted := rfl
@[simp] theorem State.beginStep_status : s.beginStep.status = 0 := rfl
@[simp] theorem State.beginStep_errSeen : s.beginStep.errSeen = s.errSeen := rfl
@[simp] theorem State.beginStep_errPc : s.beginStep.errPc = s.errPc := rfl
@[simp] theorem State.beginStep_errInsn : s.beginStep.errInsn = s.errInsn := rfl
@[simp] theorem State.beginStep_awaiting : s.beginStep.awaiting = s.awaiting := rfl
@[simp] theorem State.beginStep_keyPrev : s.beginStep.keyPrev = s.keyPrev := rfl
@[simp] theorem State.beginStep_key : s.beginStep.key = s.key := rfl
@[simp] theorem State.beginStep_cfg : s.beginStep.cfg = s.cfg := rfl
@[simp] theorem State.beginStep_draws : s.beginStep.draws = s.draws := rfl
@[simp] theorem State.beginStep_reg (y : Reg) : s.beginStep.reg y = s.reg y := rfl
@[simp] theorem State.beginStep_readByte (d : Nat) : s.beginStep.readByte d = s.readByte d := rfl

/-! ### The event `tick` -/

@[simp] theorem tick_v : (tick s).v = s.v := rfl
@[simp] theorem tick_i : (tick s).i = s.i := rfl
@[simp] theorem tick_pc : (tick s).pc = s.pc := rfl
@[simp] theorem tick_sp : (tick s).sp = s.sp := rfl
@[simp] theorem tick_stack : (tick s).stack = s.stack := rfl
@[simp] theorem tick_dt : (tick s).dt = if 0 < s.dt.toNat then s.dt - 1 else s.dt := rfl
@[simp] theorem tick_st : (tick s).st = if 0 < s.st.toNat then s.st - 1 else s.st := rfl
@[simp] theorem tick_mem : (tick s).mem = s.mem := rfl
@[simp] theorem tick_fb : (tick s).fb = s.fb := rfl
@[simp] theorem tick_dirty : (tick s).dirty = s.dirty := rfl
@[simp] theorem tick_halted : (tick s).halted = s.halted := rfl
@[simp] theorem tick_status : (tick s).status = s.status := rfl
@[simp] theorem tick_errSeen : (tick s).errSeen = s.errSeen := rfl
@[simp] theorem tick_errPc : (tick s).errPc = s.errPc := rfl
@[simp] theorem tick_errInsn : (tick s).errInsn = s.errInsn := rfl
@[simp] theorem tick_awaiting : (tick s).awaiting = s.awaiting := rfl
@[simp] theorem tick_keyPrev : (tick s).keyPrev = s.keyPrev := rfl
@[simp] theorem tick_key : (tick s).key = s.key := rfl
@[simp] theorem tick_cfg : (tick s).cfg = s.cfg := rfl
@[simp] theorem tick_draws : (tick s).draws = s.draws := rfl
@[simp] theorem tick_reg (y : Reg) : (tick s).reg y = s.reg y := rfl
@[simp] theorem tick_readByte (d : Nat) : (tick s).readByte d = s.readByte d := rfl

/-! ### The event `keyEvent` -/

@[simp] theorem keyEvent_v (k : Nibble) (down : Bool) : (keyEvent k down s).v = s.v := rfl
@[simp] theorem keyEvent_i (k : Nibble) (down : Bool) : (keyEvent k down s).i = s.i := rfl
@[simp] theorem keyEvent_pc (k : Nibble) (down : Bool) : (keyEvent k down s).pc = s.pc := rfl
@[simp] theorem keyEvent_sp (k : Nibble) (down : Bool) : (keyEvent k down s).sp = s.sp := rfl
@[simp] theorem keyEvent_stack (k : Nibble) (down : Bool) : (keyEvent k down s).stack = s.stack := rfl
@[simp] theorem keyEvent_dt (k : Nibble) (down : Bool) : (keyEvent k down s).dt = s.dt := rfl
@[simp] theorem keyEvent_st (k : Nibble) (down : Bool) : (keyEvent k down s).st = s.st := rfl
@[simp] theorem keyEvent_mem (k : Nibble) (down : Bool) : (keyEvent k down s).mem = s.mem := rfl
@[simp] theorem keyEvent_fb (k : Nibble) (down : Bool) : (keyEvent k down s).fb = s.fb := rfl
@[simp] theorem keyEvent_dirty (k : Nibble) (down : Bool) : (keyEvent k down s).dirty = s.dirty := rfl
@[simp] theorem keyEvent_halted (k : Nibble) (down : Bool) : (keyEvent k down s).halted = s.halted := rfl
@[simp] theorem keyEvent_status (k : Nibble) (down : Bool) : (keyEvent k down s).status = s.status := rfl
@[simp] theorem keyEvent_errSeen (k : Nibble) (down : Bool) : (keyEvent k down s).errSeen = s.errSeen := rfl
@[simp] theorem keyEvent_errPc (k : Nibble) (down : Bool) : (keyEvent k down s).errPc = s.errPc := rfl
@[simp] theorem keyEvent_errInsn (k : Nibble) (down : Bool) : (keyEvent k down s).errInsn = s.errInsn := rfl
@[simp] theorem keyEvent_awaiting (k : Nibble) (down : Bool) : (keyEvent k down s).awaiting = s.awaiting := rfl
@[simp] theorem keyEvent_keyPrev (k : Nibble) (down : Bool) : (keyEvent k down s).keyPrev = s.keyPrev := rfl
@[simp] theorem keyEvent_key (k : Nibble) (down : Bool) : (keyEvent k down s).key = if down then s.key ||| BitVec.twoPow 16 k.toNat else s.key &&& ~~~BitVec.twoPow 16 k.toNat := rfl
@[simp] theorem keyEvent_cfg (k : Nibble) (down : Bool) : (keyEvent k down s).cfg = s.cfg := rfl
@[simp] theorem keyEvent_draws (k : Nibble) (down : Bool) : (keyEvent k down s).draws = s.draws := rfl
@[simp] theorem keyEvent_reg (k : Nibble) (down : Bool) (y : Reg) : (keyEvent k down s).reg y = s.reg y := rfl
@[simp] theorem keyEvent_readByte (k : Nibble) (down : Bool) (d : Nat) : (keyEvent k down s).readByte d = s.readByte d := rfl

/-! ### Registers -/

/-- A write to one register is read back there and nowhere else (R20). -/
@[simp] theorem State.setReg_reg (x : Reg) (b : Byte) (y : Reg) : (s.setReg x b).reg y = if y = x then b else s.reg y := by
  unfold State.reg State.setReg
  simp only [Vector.getElem_set, eq_comm (a := x.toNat), ← BitVec.toNat_inj]

/-- Flag first, result second: the result stands where the destination is VF (R22). -/
@[simp] theorem State.setFlagThenReg_reg (x : Reg) (f b : Byte) (y : Reg) :
    (s.setFlagThenReg x f b).reg y = if y = x then b else if y = vf then f else s.reg y := by
  simp [State.setFlagThenReg]

/-! ### The loops: everything but memory, and everything but registers -/

/-- Storing bytes changes memory and nothing else (R71). -/
theorem State.storeBytes_eq (a : Nat) (bs : List Byte) : s.storeBytes a bs = { s with mem := (s.storeBytes a bs).mem } := by
  induction bs generalizing s a with
  | nil => rfl
  | cons b bs ih => rw [State.storeBytes, ih]; rfl

@[simp] theorem State.storeBytes_v (a : Nat) (bs : List Byte) : (s.storeBytes a bs).v = s.v := by
  rw [State.storeBytes_eq]
@[simp] theorem State.storeBytes_i (a : Nat) (bs : List Byte) : (s.storeBytes a bs).i = s.i := by
  rw [State.storeBytes_eq]
@[simp] theorem State.storeBytes_pc (a : Nat) (bs : List Byte) : (s.storeBytes a bs).pc = s.pc := by
  rw [State.storeBytes_eq]
@[simp] theorem State.storeBytes_sp (a : Nat) (bs : List Byte) : (s.storeBytes a bs).sp = s.sp := by
  rw [State.storeBytes_eq]
@[simp] theorem State.storeBytes_stack (a : Nat) (bs : List Byte) : (s.storeBytes a bs).stack = s.stack := by
  rw [State.storeBytes_eq]
@[simp] theorem State.storeBytes_dt (a : Nat) (bs : List Byte) : (s.storeBytes a bs).dt = s.dt := by
  rw [State.storeBytes_eq]
@[simp] theorem State.storeBytes_st (a : Nat) (bs : List Byte) : (s.storeBytes a bs).st = s.st := by
  rw [State.storeBytes_eq]
@[simp] theorem State.storeBytes_fb (a : Nat) (bs : List Byte) : (s.storeBytes a bs).fb = s.fb := by
  rw [State.storeBytes_eq]
@[simp] theorem State.storeBytes_dirty (a : Nat) (bs : List Byte) : (s.storeBytes a bs).dirty = s.dirty := by
  rw [State.storeBytes_eq]
@[simp] theorem State.storeBytes_halted (a : Nat) (bs : List Byte) : (s.storeBytes a bs).halted = s.halted := by
  rw [State.storeBytes_eq]
@[simp] theorem State.storeBytes_status (a : Nat) (bs : List Byte) : (s.storeBytes a bs).status = s.status := by
  rw [State.storeBytes_eq]
@[simp] theorem State.storeBytes_errSeen (a : Nat) (bs : List Byte) : (s.storeBytes a bs).errSeen = s.errSeen := by
  rw [State.storeBytes_eq]
@[simp] theorem State.storeBytes_errPc (a : Nat) (bs : List Byte) : (s.storeBytes a bs).errPc = s.errPc := by
  rw [State.storeBytes_eq]
@[simp] theorem State.storeBytes_errInsn (a : Nat) (bs : List Byte) : (s.storeBytes a bs).errInsn = s.errInsn := by
  rw [State.storeBytes_eq]
@[simp] theorem State.storeBytes_awaiting (a : Nat) (bs : List Byte) : (s.storeBytes a bs).awaiting = s.awaiting := by
  rw [State.storeBytes_eq]
@[simp] theorem State.storeBytes_keyPrev (a : Nat) (bs : List Byte) : (s.storeBytes a bs).keyPrev = s.keyPrev := by
  rw [State.storeBytes_eq]
@[simp] theorem State.storeBytes_key (a : Nat) (bs : List Byte) : (s.storeBytes a bs).key = s.key := by
  rw [State.storeBytes_eq]
@[simp] theorem State.storeBytes_cfg (a : Nat) (bs : List Byte) : (s.storeBytes a bs).cfg = s.cfg := by
  rw [State.storeBytes_eq]
@[simp] theorem State.storeBytes_draws (a : Nat) (bs : List Byte) : (s.storeBytes a bs).draws = s.draws := by
  rw [State.storeBytes_eq]
@[simp] theorem State.storeBytes_reg (a : Nat) (bs : List Byte) (y : Reg) : (s.storeBytes a bs).reg y = s.reg y := by
  rw [State.storeBytes_eq]; rfl

/-- Loading registers changes registers and nothing else (R176). -/
theorem State.loadRegsBelow_eq (a k : Nat) : s.loadRegsBelow a k = { s with v := (s.loadRegsBelow a k).v } := by
  induction k with
  | zero => rfl
  | succ k ih => rw [State.loadRegsBelow, ih]; rfl

@[simp] theorem State.loadRegsBelow_i (a k : Nat) : (s.loadRegsBelow a k).i = s.i := by
  rw [State.loadRegsBelow_eq]
@[simp] theorem State.loadRegsBelow_pc (a k : Nat) : (s.loadRegsBelow a k).pc = s.pc := by
  rw [State.loadRegsBelow_eq]
@[simp] theorem State.loadRegsBelow_sp (a k : Nat) : (s.loadRegsBelow a k).sp = s.sp := by
  rw [State.loadRegsBelow_eq]
@[simp] theorem State.loadRegsBelow_stack (a k : Nat) : (s.loadRegsBelow a k).stack = s.stack := by
  rw [State.loadRegsBelow_eq]
@[simp] theorem State.loadRegsBelow_dt (a k : Nat) : (s.loadRegsBelow a k).dt = s.dt := by
  rw [State.loadRegsBelow_eq]
@[simp] theorem State.loadRegsBelow_st (a k : Nat) : (s.loadRegsBelow a k).st = s.st := by
  rw [State.loadRegsBelow_eq]
@[simp] theorem State.loadRegsBelow_mem (a k : Nat) : (s.loadRegsBelow a k).mem = s.mem := by
  rw [State.loadRegsBelow_eq]
@[simp] theorem State.loadRegsBelow_fb (a k : Nat) : (s.loadRegsBelow a k).fb = s.fb := by
  rw [State.loadRegsBelow_eq]
@[simp] theorem State.loadRegsBelow_dirty (a k : Nat) : (s.loadRegsBelow a k).dirty = s.dirty := by
  rw [State.loadRegsBelow_eq]
@[simp] theorem State.loadRegsBelow_halted (a k : Nat) : (s.loadRegsBelow a k).halted = s.halted := by
  rw [State.loadRegsBelow_eq]
@[simp] theorem State.loadRegsBelow_status (a k : Nat) : (s.loadRegsBelow a k).status = s.status := by
  rw [State.loadRegsBelow_eq]
@[simp] theorem State.loadRegsBelow_errSeen (a k : Nat) : (s.loadRegsBelow a k).errSeen = s.errSeen := by
  rw [State.loadRegsBelow_eq]
@[simp] theorem State.loadRegsBelow_errPc (a k : Nat) : (s.loadRegsBelow a k).errPc = s.errPc := by
  rw [State.loadRegsBelow_eq]
@[simp] theorem State.loadRegsBelow_errInsn (a k : Nat) : (s.loadRegsBelow a k).errInsn = s.errInsn := by
  rw [State.loadRegsBelow_eq]
@[simp] theorem State.loadRegsBelow_awaiting (a k : Nat) : (s.loadRegsBelow a k).awaiting = s.awaiting := by
  rw [State.loadRegsBelow_eq]
@[simp] theorem State.loadRegsBelow_keyPrev (a k : Nat) : (s.loadRegsBelow a k).keyPrev = s.keyPrev := by
  rw [State.loadRegsBelow_eq]
@[simp] theorem State.loadRegsBelow_key (a k : Nat) : (s.loadRegsBelow a k).key = s.key := by
  rw [State.loadRegsBelow_eq]
@[simp] theorem State.loadRegsBelow_cfg (a k : Nat) : (s.loadRegsBelow a k).cfg = s.cfg := by
  rw [State.loadRegsBelow_eq]
@[simp] theorem State.loadRegsBelow_draws (a k : Nat) : (s.loadRegsBelow a k).draws = s.draws := by
  rw [State.loadRegsBelow_eq]
@[simp] theorem State.loadRegsBelow_readByte (a k d : Nat) : (s.loadRegsBelow a k).readByte d = s.readByte d := by
  rw [State.loadRegsBelow_eq]; rfl

end Sys2Proof.Machine
end

