-- ==== Sys2Proof/Laws/Memory.lean ====
section
/-! SUPPORT. Memory: a read after a write (spec/20_memory.md R71), and that every memory operation keeps the canonical form. -/

namespace Sys2Proof.Machine

variable (dflt : Nat → Byte) (m : Memory)

/-! ### Reads after `erase`, `insert` and `write` -/

theorem Memory.read_erase (a c : Nat) :
    Memory.read dflt (Memory.erase a m) c = if c = a then dflt c else Memory.read dflt m c := by
  induction m with
  | nil => simp [Memory.erase, Memory.read]
  | cons e m ih => grind [Memory.erase, Memory.read]

theorem Memory.read_insert_erase (a c : Nat) (b : Byte) :
    Memory.read dflt (Memory.insert a b (Memory.erase a m)) c = if c = a then b else Memory.read dflt m c := by
  induction m with
  | nil => grind [Memory.erase, Memory.insert, Memory.read]
  | cons e m ih => grind [Memory.erase, Memory.insert, Memory.read, Memory.read_erase]

/-- A write is read back at its address and changes no other. -/
theorem Memory.read_write (a c : Nat) (b : Byte) :
    Memory.read dflt (Memory.write dflt m a b) c = if c = a then b else Memory.read dflt m c := by
  unfold Memory.write
  split
  · rw [Memory.read_erase]; grind
  · exact Memory.read_insert_erase dflt m a c b

/-! ### The canonical form -/

/-- The canonical form of a list with a first entry, spelled out. -/
theorem Memory.wfFrom_cons (low : Nat) (e : Host.Cell) :
    Memory.wfFrom dflt low (e :: m) = true ↔
      low ≤ e.1 ∧ e.1 ≤ memTop ∧ e.2 ≠ dflt e.1 ∧ Memory.wfFrom dflt (e.1 + 1) m = true := by
  simp [Memory.wfFrom, and_assoc]

/-- Entries from a higher address on are entries from a lower one on. -/
theorem Memory.wfFrom_mono {low low' : Nat} (h : low' ≤ low) (hm : Memory.wfFrom dflt low m = true) :
    Memory.wfFrom dflt low' m = true := by
  cases m with
  | nil => rfl
  | cons e m =>
    rw [Memory.wfFrom_cons] at hm ⊢
    exact ⟨h.trans hm.1, hm.2⟩

/-- An address below every entry has none to erase. -/
theorem Memory.erase_of_lt {low a : Nat} (h : a < low) (hm : Memory.wfFrom dflt low m = true) : Memory.erase a m = m := by
  induction m generalizing low with
  | nil => rfl
  | cons e m ih =>
    rw [Memory.wfFrom_cons] at hm
    rw [Memory.erase, if_neg (by omega), ih (by omega) hm.2.2.2]

theorem Memory.wfFrom_erase {low : Nat} (a : Nat) (hm : Memory.wfFrom dflt low m = true) :
    Memory.wfFrom dflt low (Memory.erase a m) = true := by
  induction m generalizing low with
  | nil => rfl
  | cons e m ih =>
    have h := (Memory.wfFrom_cons dflt m low e).mp hm
    rw [Memory.erase]
    split
    · exact Memory.wfFrom_mono dflt _ (by omega) (ih h.2.2.2)
    · exact (Memory.wfFrom_cons dflt _ low e).mpr ⟨h.1, h.2.1, h.2.2.1, ih h.2.2.2⟩

theorem Memory.wfFrom_insert {low a : Nat} {b : Byte} (hlow : low ≤ a) (htop : a ≤ memTop) (hb : b ≠ dflt a)
    (hm : Memory.wfFrom dflt low m = true) : Memory.wfFrom dflt low (Memory.insert a b (Memory.erase a m)) = true := by
  induction m generalizing low with
  | nil => simp [Memory.erase, Memory.insert, Memory.wfFrom, hlow, htop, hb]
  | cons e m ih =>
    have h := (Memory.wfFrom_cons dflt m low e).mp hm
    rw [Memory.erase]
    split
    next he => exact Memory.wfFrom_mono dflt _ (by omega) (ih (low := a) le_rfl (Memory.wfFrom_mono dflt m (by omega) h.2.2.2))
    next he =>
      rw [Memory.insert]
      split
      next hlt =>
        rw [Memory.erase_of_lt dflt m (by omega) h.2.2.2]
        simp only [Memory.wfFrom_cons]
        exact ⟨hlow, htop, hb, by omega, h.2.1, h.2.2.1, h.2.2.2⟩
      next hge => exact (Memory.wfFrom_cons dflt _ low e).mpr ⟨h.1, h.2.1, h.2.2.1, ih (by omega) h.2.2.2⟩

/-- A write inside the space keeps the canonical form. -/
theorem Memory.wf_write {a : Nat} (b : Byte) (htop : a ≤ memTop) (hm : Memory.wf dflt m = true) :
    Memory.wf dflt (Memory.write dflt m a b) = true := by
  unfold Memory.write Memory.wf
  split
  · exact Memory.wfFrom_erase dflt m a hm
  · exact Memory.wfFrom_insert dflt m (Nat.zero_le a) htop ‹_› hm

/-- The memory after `RESET` is in canonical form: nothing is listed. -/
theorem State.resetWith_mem_wf (c : Config) (d : Nat) :
    Memory.wf (State.resetWith c d).cfg.resetByte (State.resetWith c d).mem = true := rfl

/-! ### The state's memory -/

variable (s : State)

/-- One stored byte is read back at its address and no other byte changes (R71). -/
@[simp] theorem State.writeByte_readByte (a : Nat) (b : Byte) (c : Nat) :
    (s.writeByte a b).readByte c = if c = a then b else s.readByte c :=
  Memory.read_write s.cfg.resetByte s.mem a c b

/-- What storing bytes does to a read (R64, R72): the bytes at their addresses, every other byte as before. -/
theorem State.storeBytes_readByte (a : Nat) (bs : List Byte) (c : Nat) :
    (s.storeBytes a bs).readByte c = if h : a ≤ c ∧ c - a < bs.length then bs[c - a]'h.2 else s.readByte c := by
  induction bs generalizing s a with
  | nil => simp [State.storeBytes]
  | cons b bs ih =>
    rw [State.storeBytes, ih, State.writeByte_readByte]
    by_cases h : c = a
    · subst h; simp
    · grind

theorem State.writeByte_wf {a : Nat} (b : Byte) (htop : a ≤ memTop) (hm : Memory.wf s.cfg.resetByte s.mem = true) :
    Memory.wf (s.writeByte a b).cfg.resetByte (s.writeByte a b).mem = true := by
  simpa using Memory.wf_write s.cfg.resetByte s.mem b htop hm

/-- Storing bytes inside the space keeps the canonical form. -/
theorem State.storeBytes_wf {a : Nat} {bs : List Byte} (htop : a + bs.length ≤ memTop + 1)
    (hm : Memory.wf s.cfg.resetByte s.mem = true) :
    Memory.wf (s.storeBytes a bs).cfg.resetByte (s.storeBytes a bs).mem = true := by
  induction bs generalizing s a with
  | nil => exact hm
  | cons b bs ih =>
    rw [State.storeBytes]
    simp only [List.length_cons] at htop
    exact ih (s.writeByte a b) (by omega) (State.writeByte_wf s b (by omega) hm)

end Sys2Proof.Machine
end

