-- ==== Sys2Proof/Laws/Ops.lean ====
section
/-! SUPPORT. For each shared operation, one lemma that says everything it can do; provers cite it instead of unfolding. -/

namespace Sys2Proof.Machine

variable (s : State)

/-! ### Bounds and operands -/

/-- When the bound of an access fails (R66). -/
@[simp] theorem beyondMemory_eq_true (last : Nat) : beyondMemory last = true ↔ 0xFFF < last := by simp [beyondMemory]

@[simp] theorem beyondMemory_eq_false (last : Nat) : beyondMemory last = false ↔ last ≤ 0xFFF := by simp [beyondMemory]

/-- When a register names no glyph and no key (R173, R201). -/
@[simp] theorem outOfRange_eq_true (b : Byte) : outOfRange b = true ↔ 0xF < b.toNat := by simp [outOfRange]

@[simp] theorem outOfRange_eq_false (b : Byte) : outOfRange b = false ↔ b.toNat ≤ 0xF := by simp [outOfRange]

/-- When PC can be fetched from (R67). -/
@[simp] theorem State.canFetch_eq_true : s.canFetch = true ↔ s.pc.toNat ≤ 0xFFE := by simp [State.canFetch]

@[simp] theorem State.canFetch_eq_false : s.canFetch = false ↔ 0xFFE < s.pc.toNat := by simp [State.canFetch]

/-- An address field enters a 16-bit register as it stands (R94). -/
@[simp] theorem immNnn_toNat (nnn : Addr12) : (immNnn nnn).toNat = nnn.toNat := by
  have := nnn.isLt
  simp [immNnn]; omega

/-- Where the skips go (R120, R17). -/
theorem State.skipIf_pc_toNat (cond : Bool) :
    (s.skipIf cond).pc.toNat = (s.pc.toNat + if cond = true then 4 else 2) % 2 ^ 16 := by
  cases cond <;> simp [State.skipIf, State.skip, State.advance]

@[simp] theorem State.advance_pc_toNat : s.advance.pc.toNat = (s.pc.toNat + 2) % 2 ^ 16 := by simp [State.advance]

/-- The flag stands in VF unless VF is the destination too (R22). -/
theorem State.setFlagThenReg_vf {x : Reg} (h : x ≠ vf) (flag result : Byte) :
    (s.setFlagThenReg x flag result).reg vf = flag := by
  simp [State.setFlagThenReg, Ne.symm h]

/-- A flag is 0 or 1 (R21). -/
theorem flagByte_cases (b : Bool) : flagByte b = 0 ∨ flagByte b = 1 := by cases b <;> simp [flagByte]

/-! ### The call stack -/

/-- What `push` can do: refuse exactly when 16 return addresses are stacked, else fill the slot at SP and count it (R124). -/
theorem State.push_spec (w : Word) :
    (s.sp.val = 16 ∧ s.push w = none) ∨
      ∃ h : s.sp.val < 16,
        s.push w = some { s with stack := s.stack.set s.sp.val w h, sp := ⟨s.sp.val + 1, by omega⟩ } := by
  by_cases h : s.sp.val < 16
  · exact .inr ⟨h, by simp [State.push, h]⟩
  · exact .inl ⟨by omega, by simp [State.push, h]⟩

/-- What `pop` can do: refuse exactly when the stack is empty, else hand out the slot below SP, which keeps its value (R122). -/
theorem State.pop_spec :
    (s.sp.val = 0 ∧ s.pop = none) ∨
      ∃ _ : s.sp.val ≠ 0,
        s.pop = some (s.stack[s.sp.val - 1]'(by omega), { s with sp := ⟨s.sp.val - 1, by omega⟩ }) := by
  by_cases h : s.sp.val = 0
  · exact .inl ⟨h, by simp [State.pop, h]⟩
  · exact .inr ⟨h, by simp [State.pop, h]⟩

/-! ### Errors -/

/-- Every cause has a code of its own, none of them 0 or 7 (R220). -/
theorem Cause.code_injective {c d : Cause} (h : c.code = d.code) : c = d := by
  cases c <;> cases d <;> first | rfl | exact absurd h (by decide)

theorem Cause.code_ne_zero (c : Cause) : c.code ≠ 0 := by cases c <;> decide

theorem Cause.code_ne_seven (c : Cause) : c.code ≠ 7 := by cases c <;> decide

theorem Cause.recordedWord_of_ne {c : Cause} (h : c ≠ .fetchBounds) (w : Word) : c.recordedWord w = w := by
  cases c <;> first | rfl | exact absurd rfl h

theorem Cause.skips_iff (c : Cause) (cfg : Config) : c.skips cfg = true ↔ c = .decode ∧ cfg.decodeSkip = true := by
  simp [Cause.skips]

/-- The error entry of every cause but `DECODE` halts and leaves PC (R229). -/
theorem State.raise_fatal {c : Cause} (h : c ≠ .decode) (w : Word) :
    s.raise c w =
      { s with status := c.code, errSeen := true, errPc := s.pc, errInsn := c.recordedWord w, halted := true } := by
  simp [State.raise, Cause.skips, h]

/-! ### Registers moved in bulk -/

/-- What loading registers does: V0 to V[count - 1] get the bytes, every other register stays (R176). -/
theorem State.loadRegsBelow_reg (a : Nat) {count : Nat} (hc : count ≤ 16) (y : Reg) :
    (s.loadRegsBelow a count).reg y = if y.toNat < count then s.readByte (a + y.toNat) else s.reg y := by
  induction count with
  | zero => simp [State.loadRegsBelow]
  | succ k ih =>
    have hk : (BitVec.ofNat 4 k).toNat = k := by simp; omega
    rw [State.loadRegsBelow, State.setReg_reg, ih (by omega)]
    by_cases hy : y = BitVec.ofNat 4 k
    · subst hy; simp [hk]
    · have : y.toNat ≠ k := fun h => hy (by rw [← h]; simp)
      simp only [hy, if_false, State.loadRegsBelow_readByte]
      by_cases h : y.toNat < k
      · simp [h, Nat.lt_succ_of_lt h]
      · simp [h, show ¬y.toNat < k + 1 by omega]

@[simp] theorem State.regsBelow_length (count : Nat) : (s.regsBelow count).length = count := by simp [State.regsBelow]

/-- The k-th of the registers stored is V[k] (R175). -/
@[simp] theorem State.regsBelow_getElem (count k : Nat) (h : k < (s.regsBelow count).length) :
    (s.regsBelow count)[k] = s.reg (BitVec.ofNat 4 k) := by
  simp [State.regsBelow]

/-! ### The framebuffer -/

/-- What the exclusive or into a row does to a pixel (R192). -/
theorem pixel_xorRow (f : Framebuffer) (r r' : Fin 32) (bits : BitVec 64) (c : Fin 64) :
    pixel (xorRow f r bits).1 r' c = (pixel f r' c ^^ (decide (r' = r) && bits.getLsbD c)) := by
  unfold pixel xorRow
  by_cases h : r' = r
  · subst h; simp
  · have : r.val ≠ r'.val := fun e => h (Fin.ext e.symm)
    simp [this, h]

/-- When the exclusive or into a row reports a collision: a pixel of the row was on under a 1 bit (R192). -/
theorem xorRow_hit (f : Framebuffer) (r : Fin 32) (bits : BitVec 64) :
    (xorRow f r bits).2 = true ↔ ∃ c : Fin 64, pixel f r c = true ∧ bits.getLsbD c = true := by
  unfold pixel xorRow
  generalize f[r] = row
  simp only [bne_iff_ne, ne_eq]
  constructor
  · intro h
    by_contra hn
    refine h (BitVec.eq_of_getLsbD_eq fun c hc => ?_)
    rw [BitVec.getLsbD_and, BitVec.ofNat_eq_ofNat, BitVec.getLsbD_zero, Bool.and_eq_false_iff]
    by_cases hp : row.getLsbD c = true
    · exact .inr (Bool.eq_false_iff.mpr fun hb => hn ⟨⟨c, hc⟩, hp, hb⟩)
    · exact .inl (Bool.eq_false_iff.mpr hp)
  · rintro ⟨c, hp, hb⟩ h
    have hc := congrArg (fun bits => bits.getLsbD c.val) h
    rw [BitVec.getLsbD_and, hp, hb, BitVec.ofNat_eq_ofNat, BitVec.getLsbD_zero] at hc
    exact Bool.noConfusion hc

/-- Which columns lie under a 1 bit of a sprite byte (R192). -/
theorem spriteBits_getLsbD (vx : Nat) (b : Byte) (count : Nat) (c : Fin 64) :
    (spriteBits vx b count).getLsbD c = true ↔
      ∃ k < count, (vx + k) % 64 = c.val ∧ b.getLsbD (7 - k) = true := by
  induction count with
  | zero => simp [spriteBits]
  | succ k ih =>
    rw [spriteBits, BitVec.getLsbD_or, Bool.or_eq_true, ih]
    constructor
    · rintro (⟨j, hj, h⟩ | h)
      · exact ⟨j, by omega, h⟩
      · refine ⟨k, by omega, ?_⟩
        split at h
        · simp_all
        · simp at h
    · rintro ⟨j, hj, hc, hb⟩
      rcases Nat.lt_succ_iff_lt_or_eq.mp hj with hj | rfl
      · exact .inl ⟨j, hj, hc, hb⟩
      · refine .inr ?_
        rw [if_pos hb, BitVec.getLsbD_twoPow]
        simp [hc]

/-! ### Keys -/

/-- What the search for a fresh key finds: the least key whose bit is 1 (R204). -/
theorem lowestKey_some {keys : Word} {k : Nat} :
    lowestKey keys = some k ↔ k < 16 ∧ keyHeld keys k = true ∧ ∀ j < k, keyHeld keys j = false := by
  unfold lowestKey
  rw [List.find?_range_eq_some]
  simp [List.mem_range]
  tauto

theorem lowestKey_none {keys : Word} : lowestKey keys = none ↔ keys = 0 := by
  unfold lowestKey keyHeld
  simp only [List.find?_eq_none, List.mem_range, Bool.not_eq_true]
  constructor
  · intro h; exact BitVec.eq_of_getLsbD_eq fun k hk => by simpa using h k hk
  · rintro rfl k _; simp

/-- What a key event does to a key: its own bit becomes `down`, every other stays (spec/60_exceptions.md R242). -/
theorem keyEvent_held (k : Nibble) (down : Bool) (j : Nat) (hj : j < 16) :
    keyHeld (keyEvent k down s).key j = if j = k.toNat then down else keyHeld s.key j := by
  unfold keyHeld
  rw [keyEvent_key]
  by_cases h : j = k.toNat
  · subst h; cases down <;> simp [hj]
  · cases down <;> simp [hj, h]

end Sys2Proof.Machine
end

