-- ==== Sys2Proof/Laws/Step.lean ====
section
/-! SUPPORT. What a step can do, said once (spec/30_encoding.md R90), and the instruction a state fetches. -/

namespace Sys2Proof.Machine

variable (s : State)

/-! ### Fetching depends on PC, memory and the parameters alone -/

@[simp] theorem State.beginStep_canFetch : s.beginStep.canFetch = s.canFetch := rfl

@[simp] theorem State.beginStep_fetchWord : s.beginStep.fetchWord = s.fetchWord := rfl

/-- The instruction at PC, from the fetch and the decoder. -/
theorem State.nextInstr_eq_some {i : Instr} :
    s.nextInstr = some i ↔ s.canFetch = true ∧ decodeWord s.fetchWord = .ok i := by
  unfold State.nextInstr
  cases s.canFetch <;> cases decodeWord s.fetchWord <;> simp [Except.toOption]

/-! ### Frames -/

/-- Nothing changed: every frame holds. -/
theorem Frame.refl (w : Writes) : Frame w s s := by constructor <;> intros <;> simp

/-- PC is in no frame. -/
@[simp] theorem Frame.setPc_iff (w : Writes) (t : State) (p : Word) : Frame w s (t.setPc p) ↔ Frame w s t := by
  constructor <;> rintro ⟨h1, h2, h3, h4, h5, h6, h7, h8, h9, h10, h11, h12, h13⟩ <;> constructor <;> assumption

@[simp] theorem Frame.advance_iff (w : Writes) (t : State) : Frame w s t.advance ↔ Frame w s t := Frame.setPc_iff s w t _

@[simp] theorem Frame.skipIf_iff (w : Writes) (t : State) (cond : Bool) : Frame w s (t.skipIf cond) ↔ Frame w s t := by
  cases cond <;> exact Frame.setPc_iff s w t _

/-! ### Steps -/

/-- A halted core changes nothing. -/
theorem step_of_halted (h : s.halted = true) : step s = .next s := by
  simp [step, State.cycle, h]

/-- A step that fetches a legal word runs its instruction, with DIRTY and STATUS cleared first. -/
theorem step_of_nextInstr (h : s.halted = false) {i : Instr} (hi : s.nextInstr = some i) :
    step s = exec i s.beginStep := by
  obtain ⟨hf, hd⟩ := (State.nextInstr_eq_some s).mp hi
  simp [step, State.cycle, State.fetchExecute, h, hf, hd]

/-- A step at an address that cannot be fetched from raises `FETCH_BOUNDS`. -/
theorem step_of_cannotFetch (h : s.halted = false) (hf : s.canFetch = false) :
    step s = .next (s.beginStep.raise .fetchBounds 0x0000) := by
  simp [step, State.cycle, State.fetchExecute, h, hf]

/-- A step that fetches an illegal word raises `DECODE`. -/
theorem step_of_illegal (h : s.halted = false) (hf : s.canFetch = true) {e : DecodeError}
    (hd : decodeWord s.fetchWord = .error e) : step s = .next (s.beginStep.raise .decode s.fetchWord) := by
  simp [step, State.cycle, State.fetchExecute, h, hf, hd]

/-- Everything a step can do: one of the four cases above. -/
theorem step_cases :
    (s.halted = true ∧ step s = .next s) ∨
    (s.halted = false ∧ s.canFetch = false ∧ step s = .next (s.beginStep.raise .fetchBounds 0x0000)) ∨
    (s.halted = false ∧ s.canFetch = true ∧ (∃ e, decodeWord s.fetchWord = .error e) ∧
      step s = .next (s.beginStep.raise .decode s.fetchWord)) ∨
    (s.halted = false ∧ s.canFetch = true ∧ ∃ i, decodeWord s.fetchWord = .ok i ∧ step s = exec i s.beginStep) := by
  cases h : s.halted with
  | true => exact .inl ⟨rfl, step_of_halted s h⟩
  | false =>
    cases hf : s.canFetch with
    | false => exact .inr (.inl ⟨rfl, rfl, step_of_cannotFetch s h hf⟩)
    | true =>
      cases hd : decodeWord s.fetchWord with
      | error e => exact .inr (.inr (.inl ⟨rfl, rfl, ⟨e, rfl⟩, step_of_illegal s h hf hd⟩))
      | ok i =>
        exact .inr (.inr (.inr ⟨rfl, rfl, i, rfl, step_of_nextInstr s h ((State.nextInstr_eq_some s).mpr ⟨hf, hd⟩)⟩))

end Sys2Proof.Machine
end

