-- ==== Sys2Proof/Laws/Events.lean ====
section
/-! SUPPORT. What a run of the machine is: a `RESET`, then a sequence of events from the state it leaves. -/

namespace Sys2Proof.Machine

/-- The boot changes no state: what a run answers after its `RESET` is what the events alone answer. -/
theorem runBooted_next {b : Boot} {s t : State} {es : List Event} (h : runBooted b s es = .next t) :
    runEvents s es = .next t := by
  induction es generalizing b s with
  | nil => exact h
  | cons e es ih =>
    rw [runBooted] at h
    rw [runEvents]
    split at h
    · cases h
    · split at h
      next u hu => simpa [hu] using ih h
      all_goals cases h

/-- A run that answers a state begins with `RESET` and goes on from the state that `RESET` leaves (R261). -/
theorem machineRun_next {c : Config} {d : Nat} {t : State} {es : List Event} (h : machineRun c d es = .next t) :
    ∃ es', es = .reset :: es' ∧ runEvents (State.resetWith c d) es' = .next t := by
  unfold machineRun at h
  split at h
  · exact ⟨_, rfl, runBooted_next h⟩
  all_goals cases h

/-- The parameters and the next random byte are all that `RESET` keeps (R260, R38). -/
theorem resetEvent_eq (s : State) : resetEvent s = State.resetWith s.cfg s.draws := rfl

end Sys2Proof.Machine
end

