-- ==== Sys2Proof/Laws/PerInstr.lean ====
section
/-! SUPPORT. The statement made per instruction: the word of an instruction selects the row of the opcode map (spec/30_encoding.md
R96) that bears the instruction's mnemonic. -/

namespace Sys2Proof.Laws.OpcodeRow

/-- Some row of the opcode map bears the instruction's mnemonic and matches its word. -/
def Statement (i : Instr) : Prop := ∃ r ∈ opcodeMap, r.mnemonic = i.mnemonic ∧ r.hit (encode i) = true

/-- A row found in the map and a mask computed are all it takes. -/
theorem of_row {i : Instr} (r : OpcodeRow) (hr : r ∈ opcodeMap) (hm : r.mnemonic = i.mnemonic)
    (hw : encode i &&& r.mask = r.value) : Statement i :=
  ⟨r, hr, hm, by simp [OpcodeRow.hit, hw]⟩

theorem cls : Statement (.cls) :=
  of_row ⟨"CLS", 0xFFFF#16, 0x00E0#16⟩ (by decide) rfl (rfl)

theorem ret : Statement (.ret) :=
  of_row ⟨"RET", 0xFFFF#16, 0x00EE#16⟩ (by decide) rfl (rfl)

theorem sys (nnn : Addr12) : Statement (.sys nnn) :=
  of_row ⟨"SYS_nnn", 0xF000#16, 0x0000#16⟩ (by decide) rfl ((wordNnn_mask 0x0#4 nnn).trans rfl)

theorem jp (nnn : Addr12) : Statement (.jp nnn) :=
  of_row ⟨"JP_nnn", 0xF000#16, 0x1000#16⟩ (by decide) rfl ((wordNnn_mask 0x1#4 nnn).trans rfl)

theorem call (nnn : Addr12) : Statement (.call nnn) :=
  of_row ⟨"CALL_nnn", 0xF000#16, 0x2000#16⟩ (by decide) rfl ((wordNnn_mask 0x2#4 nnn).trans rfl)

theorem seImm (x : Reg) (kk : Byte) : Statement (.seImm x kk) :=
  of_row ⟨"SE_Vx__kk", 0xF000#16, 0x3000#16⟩ (by decide) rfl ((wordXkk_mask_op 0x3#4 x kk).trans rfl)

theorem sneImm (x : Reg) (kk : Byte) : Statement (.sneImm x kk) :=
  of_row ⟨"SNE_Vx__kk", 0xF000#16, 0x4000#16⟩ (by decide) rfl ((wordXkk_mask_op 0x4#4 x kk).trans rfl)

theorem seReg (x y : Reg) : Statement (.seReg x y) :=
  of_row ⟨"SE_Vx__Vy", 0xF00F#16, 0x5000#16⟩ (by decide) rfl ((wordXyn_mask_sub 0x5#4 x y 0x0#4).trans rfl)

theorem ldImm (x : Reg) (kk : Byte) : Statement (.ldImm x kk) :=
  of_row ⟨"LD_Vx__kk", 0xF000#16, 0x6000#16⟩ (by decide) rfl ((wordXkk_mask_op 0x6#4 x kk).trans rfl)

theorem addImm (x : Reg) (kk : Byte) : Statement (.addImm x kk) :=
  of_row ⟨"ADD_Vx__kk", 0xF000#16, 0x7000#16⟩ (by decide) rfl ((wordXkk_mask_op 0x7#4 x kk).trans rfl)

theorem ldReg (x y : Reg) : Statement (.ldReg x y) :=
  of_row ⟨"LD_Vx__Vy", 0xF00F#16, 0x8000#16⟩ (by decide) rfl ((wordXyn_mask_sub 0x8#4 x y 0x0#4).trans rfl)

theorem orReg (x y : Reg) : Statement (.orReg x y) :=
  of_row ⟨"OR_Vx__Vy", 0xF00F#16, 0x8001#16⟩ (by decide) rfl ((wordXyn_mask_sub 0x8#4 x y 0x1#4).trans rfl)

theorem andReg (x y : Reg) : Statement (.andReg x y) :=
  of_row ⟨"AND_Vx__Vy", 0xF00F#16, 0x8002#16⟩ (by decide) rfl ((wordXyn_mask_sub 0x8#4 x y 0x2#4).trans rfl)

theorem xorReg (x y : Reg) : Statement (.xorReg x y) :=
  of_row ⟨"XOR_Vx__Vy", 0xF00F#16, 0x8003#16⟩ (by decide) rfl ((wordXyn_mask_sub 0x8#4 x y 0x3#4).trans rfl)

theorem addReg (x y : Reg) : Statement (.addReg x y) :=
  of_row ⟨"ADD_Vx__Vy", 0xF00F#16, 0x8004#16⟩ (by decide) rfl ((wordXyn_mask_sub 0x8#4 x y 0x4#4).trans rfl)

theorem subReg (x y : Reg) : Statement (.subReg x y) :=
  of_row ⟨"SUB_Vx__Vy", 0xF00F#16, 0x8005#16⟩ (by decide) rfl ((wordXyn_mask_sub 0x8#4 x y 0x5#4).trans rfl)

theorem shr (x y : Reg) : Statement (.shr x y) :=
  of_row ⟨"SHR_Vx____Vy", 0xF00F#16, 0x8006#16⟩ (by decide) rfl ((wordXyn_mask_sub 0x8#4 x y 0x6#4).trans rfl)

theorem subnReg (x y : Reg) : Statement (.subnReg x y) :=
  of_row ⟨"SUBN_Vx__Vy", 0xF00F#16, 0x8007#16⟩ (by decide) rfl ((wordXyn_mask_sub 0x8#4 x y 0x7#4).trans rfl)

theorem shl (x y : Reg) : Statement (.shl x y) :=
  of_row ⟨"SHL_Vx____Vy", 0xF00F#16, 0x800E#16⟩ (by decide) rfl ((wordXyn_mask_sub 0x8#4 x y 0xE#4).trans rfl)

theorem sneReg (x y : Reg) : Statement (.sneReg x y) :=
  of_row ⟨"SNE_Vx__Vy", 0xF00F#16, 0x9000#16⟩ (by decide) rfl ((wordXyn_mask_sub 0x9#4 x y 0x0#4).trans rfl)

theorem ldI (nnn : Addr12) : Statement (.ldI nnn) :=
  of_row ⟨"LD_I__nnn", 0xF000#16, 0xA000#16⟩ (by decide) rfl ((wordNnn_mask 0xA#4 nnn).trans rfl)

theorem jpV0 (nnn : Addr12) : Statement (.jpV0 nnn) :=
  of_row ⟨"JP_V0__nnn", 0xF000#16, 0xB000#16⟩ (by decide) rfl ((wordNnn_mask 0xB#4 nnn).trans rfl)

theorem rnd (x : Reg) (kk : Byte) : Statement (.rnd x kk) :=
  of_row ⟨"RND_Vx__kk", 0xF000#16, 0xC000#16⟩ (by decide) rfl ((wordXkk_mask_op 0xC#4 x kk).trans rfl)

theorem drw (x y : Reg) (n : Nibble) : Statement (.drw x y n) :=
  of_row ⟨"DRW_Vx__Vy__n", 0xF000#16, 0xD000#16⟩ (by decide) rfl ((wordXyn_mask_op 0xD#4 x y n).trans rfl)

theorem skp (x : Reg) : Statement (.skp x) :=
  of_row ⟨"SKP_Vx", 0xF0FF#16, 0xE09E#16⟩ (by decide) rfl ((wordXkk_mask_fn 0xE#4 x 0x9E#8).trans rfl)

theorem sknp (x : Reg) : Statement (.sknp x) :=
  of_row ⟨"SKNP_Vx", 0xF0FF#16, 0xE0A1#16⟩ (by decide) rfl ((wordXkk_mask_fn 0xE#4 x 0xA1#8).trans rfl)

theorem ldVxDt (x : Reg) : Statement (.ldVxDt x) :=
  of_row ⟨"LD_Vx__DT", 0xF0FF#16, 0xF007#16⟩ (by decide) rfl ((wordXkk_mask_fn 0xF#4 x 0x07#8).trans rfl)

theorem ldVxK (x : Reg) : Statement (.ldVxK x) :=
  of_row ⟨"LD_Vx__K", 0xF0FF#16, 0xF00A#16⟩ (by decide) rfl ((wordXkk_mask_fn 0xF#4 x 0x0A#8).trans rfl)

theorem ldDtVx (x : Reg) : Statement (.ldDtVx x) :=
  of_row ⟨"LD_DT__Vx", 0xF0FF#16, 0xF015#16⟩ (by decide) rfl ((wordXkk_mask_fn 0xF#4 x 0x15#8).trans rfl)

theorem ldStVx (x : Reg) : Statement (.ldStVx x) :=
  of_row ⟨"LD_ST__Vx", 0xF0FF#16, 0xF018#16⟩ (by decide) rfl ((wordXkk_mask_fn 0xF#4 x 0x18#8).trans rfl)

theorem addI (x : Reg) : Statement (.addI x) :=
  of_row ⟨"ADD_I__Vx", 0xF0FF#16, 0xF01E#16⟩ (by decide) rfl ((wordXkk_mask_fn 0xF#4 x 0x1E#8).trans rfl)

theorem ldF (x : Reg) : Statement (.ldF x) :=
  of_row ⟨"LD_F__Vx", 0xF0FF#16, 0xF029#16⟩ (by decide) rfl ((wordXkk_mask_fn 0xF#4 x 0x29#8).trans rfl)

theorem ldB (x : Reg) : Statement (.ldB x) :=
  of_row ⟨"LD_B__Vx", 0xF0FF#16, 0xF033#16⟩ (by decide) rfl ((wordXkk_mask_fn 0xF#4 x 0x33#8).trans rfl)

theorem storeRegs (x : Reg) : Statement (.storeRegs x) :=
  of_row ⟨"LD__I___Vx", 0xF0FF#16, 0xF055#16⟩ (by decide) rfl ((wordXkk_mask_fn 0xF#4 x 0x55#8).trans rfl)

theorem loadRegs (x : Reg) : Statement (.loadRegs x) :=
  of_row ⟨"LD_Vx___I", 0xF0FF#16, 0xF065#16⟩ (by decide) rfl ((wordXkk_mask_fn 0xF#4 x 0x65#8).trans rfl)

end Sys2Proof.Laws.OpcodeRow
end

