-- ==== Sys2Proof/Tests/Slice0.lean ====
section
/-! SUPPORT. Small tests with results taken from spec/: the words are written out from R96 of spec/30_encoding.md, the vectors are
those of spec/95_test_vectors.md, cited by their ids; then, for each obligation with hypotheses, a state and operands that meet
them. -/

namespace Sys2Proof.Tests

open Sys2Proof.Machine

/-! ### Helpers -/

/-- An outcome is a next state with the property. -/
def nextWith (o : Host.Outcome State Fault Refusal) (p : State → Bool) : Bool :=
  match o with
  | .next t => p t
  | .fault _ => false
  | .refused _ => false

/-- One step of `s` with the word `w` under the fetch. -/
def runs (w : Nat) (s : State) (p : State → Bool) : Bool := nextWith (step (s.withFetchWord 16 w)) p

/-- The state after `RESET` with some registers set. -/
def regs (l : List (Reg × Byte)) : State := l.foldl (fun s p => s.setReg p.1 p.2) State.reset

/-- The number of pixels that are on in a row. -/
def litInRow (s : State) (r : Fin 32) : Nat := ((List.finRange 64).filter fun c => pixel s.fb r c).length

/-- A step recorded this cause, this PC and this word and halted at that PC. -/
def haltedWith (c : Cause) (pc w : Word) (t : State) : Bool :=
  t.status == c.code && t.errSeen && t.errPc == pc && t.errInsn == w && t.halted && t.pc == pc

/-! ### Well-formedness: the one check, with a term it refuses for each of its two values, and one it accepts -/

theorem test_sys_0E0_is_ill_formed : (Instr.sys 0x0E0).wellFormed = false := by decide
theorem test_sys_0EE_is_ill_formed : (Instr.sys 0x0EE).wellFormed = false := by decide
theorem test_sys_0E1_is_well_formed : (Instr.sys 0x0E1).wellFormed = true := by decide

/-! ### Decoding (R95, R96): a word of every row, its digits written out from the pattern of the row -/

theorem test_decode_cls : decode [0x00, 0xE0, 0x77] = .ok (.cls, [0x77]) := by decide
theorem test_decode_ret : decode [0x00, 0xEE, 0x77] = .ok (.ret, [0x77]) := by decide
theorem test_decode_sys : decode [0x0E, 0xDF, 0x77] = .ok (.sys 0xEDF, [0x77]) := by decide
theorem test_decode_jp : decode [0x1A, 0xBC, 0x77] = .ok (.jp 0xABC, [0x77]) := by decide
theorem test_decode_call : decode [0x22, 0x0A, 0x77] = .ok (.call 0x20A, [0x77]) := by decide
theorem test_decode_seImm : decode [0x33, 0x2A, 0x77] = .ok (.seImm 0x3 0x2A, [0x77]) := by decide
theorem test_decode_sneImm : decode [0x4B, 0x01, 0x77] = .ok (.sneImm 0xB 0x01, [0x77]) := by decide
theorem test_decode_seReg : decode [0x51, 0x20, 0x77] = .ok (.seReg 0x1 0x2, [0x77]) := by decide
theorem test_decode_ldImm : decode [0x6A, 0x42, 0x77] = .ok (.ldImm 0xA 0x42, [0x77]) := by decide
theorem test_decode_addImm : decode [0x7F, 0x01, 0x77] = .ok (.addImm 0xF 0x01, [0x77]) := by decide
theorem test_decode_ldReg : decode [0x81, 0x20, 0x77] = .ok (.ldReg 0x1 0x2, [0x77]) := by decide
theorem test_decode_orReg : decode [0x83, 0x41, 0x77] = .ok (.orReg 0x3 0x4, [0x77]) := by decide
theorem test_decode_andReg : decode [0x85, 0x62, 0x77] = .ok (.andReg 0x5 0x6, [0x77]) := by decide
theorem test_decode_xorReg : decode [0x87, 0x83, 0x77] = .ok (.xorReg 0x7 0x8, [0x77]) := by decide
theorem test_decode_addReg : decode [0x89, 0xA4, 0x77] = .ok (.addReg 0x9 0xA, [0x77]) := by decide
theorem test_decode_subReg : decode [0x8B, 0xC5, 0x77] = .ok (.subReg 0xB 0xC, [0x77]) := by decide
theorem test_decode_shr : decode [0x8D, 0xE6, 0x77] = .ok (.shr 0xD 0xE, [0x77]) := by decide
theorem test_decode_subnReg : decode [0x8F, 0x07, 0x77] = .ok (.subnReg 0xF 0x0, [0x77]) := by decide
theorem test_decode_shl : decode [0x80, 0x1E, 0x77] = .ok (.shl 0x0 0x1, [0x77]) := by decide
theorem test_decode_sneReg : decode [0x91, 0x20, 0x77] = .ok (.sneReg 0x1 0x2, [0x77]) := by decide
theorem test_decode_ldI : decode [0xA1, 0x23, 0x77] = .ok (.ldI 0x123, [0x77]) := by decide
theorem test_decode_jpV0 : decode [0xBF, 0xFE, 0x77] = .ok (.jpV0 0xFFE, [0x77]) := by decide
theorem test_decode_rnd : decode [0xC3, 0x0F, 0x77] = .ok (.rnd 0x3 0x0F, [0x77]) := by decide
theorem test_decode_drw : decode [0xD1, 0x25, 0x77] = .ok (.drw 0x1 0x2 0x5, [0x77]) := by decide
theorem test_decode_skp : decode [0xE2, 0x9E, 0x77] = .ok (.skp 0x2, [0x77]) := by decide
theorem test_decode_sknp : decode [0xE3, 0xA1, 0x77] = .ok (.sknp 0x3, [0x77]) := by decide
theorem test_decode_ldVxDt : decode [0xF3, 0x07, 0x77] = .ok (.ldVxDt 0x3, [0x77]) := by decide
theorem test_decode_ldVxK : decode [0xF4, 0x0A, 0x77] = .ok (.ldVxK 0x4, [0x77]) := by decide
theorem test_decode_ldDtVx : decode [0xF5, 0x15, 0x77] = .ok (.ldDtVx 0x5, [0x77]) := by decide
theorem test_decode_ldStVx : decode [0xF6, 0x18, 0x77] = .ok (.ldStVx 0x6, [0x77]) := by decide
theorem test_decode_addI : decode [0xF7, 0x1E, 0x77] = .ok (.addI 0x7, [0x77]) := by decide
theorem test_decode_ldF : decode [0xF8, 0x29, 0x77] = .ok (.ldF 0x8, [0x77]) := by decide
theorem test_decode_ldB : decode [0xF9, 0x33, 0x77] = .ok (.ldB 0x9, [0x77]) := by decide
theorem test_decode_storeRegs : decode [0xFA, 0x55, 0x77] = .ok (.storeRegs 0xA, [0x77]) := by decide
theorem test_decode_loadRegs : decode [0xFB, 0x65, 0x77] = .ok (.loadRegs 0xB, [0x77]) := by decide

/-- F2 to F6: illegal words, one for each group; F8: 00E1 is none. -/
theorem test_illegal_words :
    ([0x5121, 0x8128, 0x8129, 0x812F, 0x9121, 0xE000, 0xE19F, 0xF000, 0xF108, 0xF054, 0xF0FF].all fun w =>
      (decodeTableWord 16 w).isNone) = true ∧ decodeTableWord 16 0x00E1 = some (.sys 0x0E1) := by decide

theorem test_decode_short_bytes : decode [0x12] = .error .truncated ∧ decode [] = .error .truncated := by decide

/-! ### One step of each instruction -/

/-- DR13: pixels off, DIRTY 1. -/
theorem test_cls :
    runs 0x00E0 { State.reset with fb := Vector.replicate 32 0xF0F0 } (fun t => t.fb == blankScreen && t.dirty && t.pc == 0x0202) = true := by decide

/-- CT6, CT7. -/
theorem test_ret :
    runs 0x00EE { State.reset with sp := 1, stack := State.reset.stack.set 0 0x0206 } (fun t => t.pc == 0x0206 && t.sp == 0 && t.stack[0] == 0x0206) = true ∧
    runs 0x00EE State.reset (fun t => haltedWith .stackUnderflow 0x0200 0x00EE t && t.sp == 0) = true := by decide

/-- F8, CT4. -/
theorem test_sys :
    runs 0x00E1 State.reset (fun t => t.pc == 0x00E1) = true ∧
    runs 0x0300 State.reset (fun t => t.pc == 0x0300 && t.sp == 0) = true := by decide

/-- CT1, CT3. -/
theorem test_jp :
    runs 0x1ABC State.reset (fun t => t.pc == 0x0ABC) = true ∧
    runs 0x1FFF State.reset (fun t => t.pc == 0x0FFF) = true := by decide

/-- CT5, CT8. -/
theorem test_call :
    runs 0x220A { State.reset with pc := 0x0204 } (fun t => t.pc == 0x020A && t.sp == 1 && t.stack[0] == 0x0206) = true ∧
    runs 0x2300 { State.reset with sp := 16 } (fun t => haltedWith .stackOverflow 0x0200 0x2300 t && t.sp == 16) = true := by decide

/-- CT9, CT10. -/
theorem test_seImm :
    runs 0x332A (regs [(3, 0x2A)]) (fun t => t.pc == 0x0204) = true ∧
    runs 0x332A (regs [(3, 0x2B)]) (fun t => t.pc == 0x0202) = true := by decide

/-- CT11, CT12. -/
theorem test_sneImm :
    runs 0x432A (regs [(3, 0x2A)]) (fun t => t.pc == 0x0202) = true ∧
    runs 0x432A State.reset (fun t => t.pc == 0x0204) = true := by decide

/-- CT13, CT14. -/
theorem test_seReg :
    runs 0x5120 (regs [(1, 7), (2, 7)]) (fun t => t.pc == 0x0204) = true ∧
    runs 0x5120 (regs [(1, 7), (2, 8)]) (fun t => t.pc == 0x0202) = true := by decide

/-- CT16, CT17. -/
theorem test_sneReg :
    runs 0x9120 (regs [(1, 7), (2, 8)]) (fun t => t.pc == 0x0204) = true ∧
    runs 0x9120 (regs [(1, 7), (2, 7)]) (fun t => t.pc == 0x0202) = true := by decide

/-- CT20, CT21: V0 and not Vx, not cut to 12 bits. -/
theorem test_jpV0 :
    runs 0xBFFF (regs [(0, 0xFF)]) (fun t => t.pc == 0x10FE) = true ∧
    runs 0xB300 (regs [(0, 0x01), (3, 0x50)]) (fun t => t.pc == 0x0301) = true := by decide

/-- A0. -/
theorem test_ldImm :
    runs 0x6A42 State.reset (fun t => t.reg 0xA == 0x42 && t.pc == 0x0202) = true := by decide

/-- A2, A3. -/
theorem test_addImm :
    runs 0x7001 (regs [(0, 0xFF), (0xF, 0x09)]) (fun t => t.reg 0 == 0x00 && t.reg vf == 0x09) = true ∧
    runs 0x7F01 (regs [(0xF, 0xFF)]) (fun t => t.reg vf == 0x00) = true := by decide

/-- A4. -/
theorem test_ldReg :
    runs 0x8010 (regs [(0, 0x01), (1, 0xAB)]) (fun t => t.reg 0 == 0xAB && t.reg 1 == 0xAB) = true := by decide

/-- A5. -/
theorem test_orReg :
    runs 0x8011 (regs [(0, 0xF0), (1, 0x0F), (0xF, 0x07)]) (fun t => t.reg 0 == 0xFF && t.reg vf == 0x07) = true := by decide

/-- A6. -/
theorem test_andReg :
    runs 0x8012 (regs [(0, 0xF0), (1, 0x3C), (0xF, 0x07)]) (fun t => t.reg 0 == 0x30 && t.reg vf == 0x07) = true := by decide

/-- A7. -/
theorem test_xorReg :
    runs 0x8013 (regs [(0, 0xF0), (1, 0x3C), (0xF, 0x07)]) (fun t => t.reg 0 == 0xCC && t.reg vf == 0x07) = true := by decide

/-- A9, A14. -/
theorem test_addReg :
    runs 0x8014 (regs [(0, 0xFF), (1, 0x01)]) (fun t => t.reg 0 == 0x00 && t.reg vf == 1) = true ∧
    runs 0x80F4 (regs [(0, 0xFF), (0xF, 0x01)]) (fun t => t.reg 0 == 0x00 && t.reg vf == 1) = true := by decide

/-- A13: the result stands, the flag is lost. -/
theorem test_addReg_into_vf :
    runs 0x8F14 (regs [(0xF, 0xF0), (1, 0x20)]) (fun t => t.reg vf == 0x10) = true := by decide

/-- A16, A20. -/
theorem test_subReg :
    runs 0x8015 (regs [(0, 3), (1, 5)]) (fun t => t.reg 0 == 0xFE && t.reg vf == 0) = true ∧
    runs 0x80F5 (regs [(0, 0x10), (0xF, 0x20)]) (fun t => t.reg 0 == 0xF0 && t.reg vf == 0) = true := by decide

/-- A15: equal operands under both settings of CFG_BORROW_STRICT. -/
theorem test_subReg_equal :
    runs 0x8015 (regs [(0, 5), (1, 5)]) (fun t => t.reg 0 == 0 && t.reg vf == 1) = true ∧
    runs 0x8015 { regs [(0, 5), (1, 5)] with cfg := { defaultConfig with borrowStrict := true } } (fun t => t.reg 0 == 0 && t.reg vf == 0) = true := by decide

/-- A21, A25. -/
theorem test_shr :
    runs 0x8016 (regs [(0, 0x05), (1, 0xAA)]) (fun t => t.reg 0 == 0x02 && t.reg vf == 1 && t.reg 1 == 0xAA) = true ∧
    runs 0x8016 { regs [(0, 0x05), (1, 0xAB)] with cfg := { defaultConfig with shiftSrcVy := true } } (fun t => t.reg 0 == 0x55 && t.reg vf == 1 && t.reg 1 == 0xAB) = true := by decide

/-- A26, A27. -/
theorem test_subnReg :
    runs 0x8017 (regs [(0, 3), (1, 5)]) (fun t => t.reg 0 == 0x02 && t.reg vf == 1) = true ∧
    runs 0x8017 (regs [(0, 5), (1, 3)]) (fun t => t.reg 0 == 0xFE && t.reg vf == 0) = true := by decide

/-- A28. -/
theorem test_subnReg_equal :
    runs 0x8017 (regs [(0, 5), (1, 5)]) (fun t => t.reg 0 == 0 && t.reg vf == 1) = true ∧
    runs 0x8017 { regs [(0, 5), (1, 5)] with cfg := { defaultConfig with borrowStrict := true } } (fun t => t.reg 0 == 0 && t.reg vf == 0) = true := by decide

/-- A30, A33. -/
theorem test_shl :
    runs 0x801E (regs [(0, 0x40)]) (fun t => t.reg 0 == 0x80 && t.reg vf == 0) = true ∧
    runs 0x801E { regs [(0, 0x01), (1, 0xC0)] with cfg := { defaultConfig with shiftSrcVy := true } } (fun t => t.reg 0 == 0x80 && t.reg vf == 1 && t.reg 1 == 0xC0) = true := by decide

/-- A35: with kk = 0 the result is 0 whatever the random byte is. -/
theorem test_rnd : runs 0xC300 (regs [(3, 0x55)]) (fun t => t.draws == 1 && t.pc == 0x0202) = true ∧
    ∀ b : Byte, b &&& 0x00 = 0x00 := ⟨by decide, fun b => BitVec.and_zero⟩

/-- M2. -/
theorem test_ldI :
    runs 0xAFFF State.reset (fun t => t.i == 0x0FFF && t.pc == 0x0202) = true := by decide

/-- M4, M5. -/
theorem test_addI :
    runs 0xF01E { regs [(0, 0x01)] with i := 0x0FFF } (fun t => t.i == 0x1000 && t.reg vf == 1) = true ∧
    runs 0xF01E { regs [(0, 0x02)] with i := 0xFFFF } (fun t => t.i == 0x0001 && t.reg vf == 1) = true := by decide

/-- M8, M3. -/
theorem test_addI_of_vf :
    runs 0xFF1E { regs [(0xF, 0x03)] with i := 0x0100 } (fun t => t.i == 0x0103 && t.reg vf == 0) = true ∧
    runs 0xF01E { regs [(0, 0x01)] with i := 0x0FFE } (fun t => t.i == 0x0FFF && t.reg vf == 0) = true := by decide

/-- M9, M10. -/
theorem test_ldF :
    runs 0xF029 (regs [(0, 0x0F)]) (fun t => t.i == 0x004B && !t.halted) = true ∧
    runs 0xF029 (regs [(0, 0x10)]) (fun t => haltedWith .operandRange 0x0200 0xF029 t && t.i == 0) = true := by decide

/-- M11, M12. -/
theorem test_ldB :
    runs 0xF033 { regs [(0, 234)] with i := 0x0300 } (fun t => t.readByte 0x300 == 2 && t.readByte 0x301 == 3 && t.readByte 0x302 == 4) = true ∧
    runs 0xF033 { regs [(0, 123)] with i := 0x0FFD } (fun t => t.readByte 0xFFD == 1 && t.readByte 0xFFE == 2 && t.readByte 0xFFF == 3) = true := by decide

/-- M13: not even the first byte is written. -/
theorem test_ldB_out_of_bounds :
    runs 0xF033 { regs [(0, 123)] with i := 0x0FFE } (fun t => haltedWith .memBounds 0x0200 0xF033 t && t.readByte 0xFFE == 0) = true := by decide

/-- M14, M15. -/
theorem test_storeRegs :
    runs 0xF255 { regs [(0, 0x11), (1, 0x22), (2, 0x33), (3, 0x44)] with i := 0x0300 } (fun t => t.readByte 0x301 == 0x22 && t.readByte 0x302 == 0x33 && t.readByte 0x303 == 0 && t.i == 0x0300) = true ∧
    runs 0xF255 { regs [(2, 0x33)] with i := 0x0300, cfg := { defaultConfig with legacyIInc := true } } (fun t => t.readByte 0x302 == 0x33 && t.i == 0x0303) = true := by decide

/-- M17, M18. -/
theorem test_storeRegs_at_top :
    runs 0xF255 { regs [(0, 0x11)] with i := 0x0FFE } (fun t => haltedWith .memBounds 0x0200 0xF255 t && t.readByte 0xFFE == 0) = true ∧
    runs 0xF055 { regs [(0, 0x11)] with i := 0x0FFF, cfg := { defaultConfig with legacyIInc := true } } (fun t => t.readByte 0xFFF == 0x11 && t.i == 0x1000 && !t.halted) = true := by decide

/-- M20, M21. -/
theorem test_loadRegs :
    runs 0xF265 (regs [(3, 9)]) (fun t => t.reg 0 == 0xF0 && t.reg 1 == 0x90 && t.reg 2 == 0x90 && t.reg 3 == 0x09) = true ∧
    runs 0xFF65 State.reset (fun t => t.reg 5 == 0x20 && t.reg 0xD == 0x80 && t.reg vf == 0xF0) = true := by decide

/-- M22: no partial load. -/
theorem test_loadRegs_out_of_bounds :
    runs 0xF165 { regs [(0, 7), (1, 7)] with i := 0x0FFF } (fun t => haltedWith .memBounds 0x0200 0xF165 t && t.reg 0 == 7 && t.reg 1 == 7) = true := by decide

/-- DR1: columns wrap; DR11: the old VF is the column. -/
theorem test_drw :
    runs 0xD011 ({ regs [(0, 62)] with i := 0x0300 }.writeByte 0x300 0xFF) (fun t => litInRow t 0 == 8 && pixel t.fb 0 63 && pixel t.fb 0 5 && !pixel t.fb 0 6 && t.reg vf == 0 && t.dirty) = true ∧
    runs 0xDF11 ({ regs [(0xF, 3), (1, 2)] with i := 0x0300 }.writeByte 0x300 0x80) (fun t => litInRow t 2 == 1 && pixel t.fb 2 3 && t.reg vf == 0) = true := by decide

/-- DR5: n = 0 reads nothing; DR7: nothing is drawn. -/
theorem test_drw_bounds :
    runs 0xD010 { regs [(0, 1), (0xF, 5)] with i := 0x1234 } (fun t => t.fb == blankScreen && t.reg vf == 0 && t.dirty && !t.halted) = true ∧
    runs 0xD013 { regs [(0xF, 9)] with i := 0x0FFE } (fun t => haltedWith .memBounds 0x0200 0xD013 t && t.fb == blankScreen && t.reg vf == 9 && !t.dirty) = true := by decide

/-- K1, K8: above 0xF is not masked. -/
theorem test_skp :
    runs 0xE29E { regs [(2, 0x05)] with key := 0x0020 } (fun t => t.pc == 0x0204) = true ∧
    runs 0xE29E { regs [(2, 0x15)] with key := 0x0020 } (fun t => haltedWith .operandRange 0x0200 0xE29E t) = true := by decide

/-- K3, K4. -/
theorem test_sknp :
    runs 0xE2A1 { regs [(2, 0x05)] with key := 0x0020 } (fun t => t.pc == 0x0202) = true ∧
    runs 0xE2A1 (regs [(2, 0x05)]) (fun t => t.pc == 0x0204) = true := by decide

/-- T2. -/
theorem test_ldVxDt :
    runs 0xF307 { State.reset with dt := 0x2C } (fun t => t.reg 3 == 0x2C && t.dt == 0x2C) = true := by decide

/-- Steps 1 and 2 of the trace of `Fx0A`: the first attempt arms, a held key is not fresh. -/
theorem test_ldVxK_waits :
    runs 0xF30A { State.reset with key := 0x0010 } (fun t => t.pc == 0x0200 && t.awaiting && t.keyPrev == 0x0010) = true ∧
    runs 0xF30A { State.reset with key := 0x0010, keyPrev := 0x0010, awaiting := true } (fun t => t.pc == 0x0200 && t.awaiting && t.reg 3 == 0) = true := by decide

/-- Step 5 of the trace: the lowest of two fresh keys. -/
theorem test_ldVxK_completes :
    runs 0xF30A { State.reset with key := 0x0090, awaiting := true } (fun t => t.pc == 0x0202 && t.reg 3 == 0x04 && !t.awaiting && t.keyPrev == 0x0090) = true := by decide

/-- T1. -/
theorem test_ldDtVx :
    runs 0xF015 (regs [(0, 0x0A)]) (fun t => t.dt == 0x0A && t.st == 0 && t.pc == 0x0202) = true := by decide

/-- T3. -/
theorem test_ldStVx :
    runs 0xF118 (regs [(1, 0x05)]) (fun t => t.st == 5 && t.dt == 0 && t.pc == 0x0202) = true := by decide

/-! ### The step and the other events -/

/-- F2, F3. -/
theorem test_decode_error :
    runs 0x5121 State.reset (fun t => haltedWith .decode 0x0200 0x5121 t) = true ∧
    runs 0x8128 State.reset (fun t => haltedWith .decode 0x0200 0x8128 t) = true := by decide

/-- F7: reported and passed over. -/
theorem test_decode_skip :
    runs 0x8008 { State.reset with cfg := { defaultConfig with decodeSkip := true } } (fun t => t.status == 1 && t.errSeen && t.errInsn == 0x8008 && !t.halted && t.pc == 0x0202) = true := by decide

/-- F11: the last legal fetch. -/
theorem test_fetch_at_top :
    runs 0x602A { State.reset with pc := 0x0FFE } (fun t => t.reg 0 == 0x2A && t.pc == 0x1000) = true := by decide

/-- F10, CT20: a fetch from above 0xFFE. -/
theorem test_fetch_bounds :
    nextWith (step { State.reset with pc := 0x0FFF }) (haltedWith .fetchBounds 0x0FFF 0x0000) = true ∧
    nextWith (step { State.reset with pc := 0x10FE }) (haltedWith .fetchBounds 0x10FE 0x0000) = true := by decide

/-- F12: an odd PC is fetched like any other. -/
theorem test_odd_pc :
    nextWith (step (({ State.reset with pc := 0x0201 }.writeByte 0x201 0x61).writeByte 0x202 0x07))
      (fun t => t.reg 1 == 0x07 && t.pc == 0x0203) = true := by decide

/-- F9, X3: the first step from reset with nothing loaded jumps to 0x000, where the word 0xF090 of the font is illegal. -/
theorem test_reset_alone :
    nextWith (step State.reset) (fun t => t.pc == 0x0000) = true ∧
    nextWith (step { State.reset with pc := 0x0000 }) (haltedWith .decode 0x0000 0xF090) = true := by decide

/-- T4, T6: each timer is tested on its own, halted or not. -/
theorem test_tick :
    (tick { State.reset with dt := 0, st := 3 }).dt = 0 ∧ (tick { State.reset with dt := 0, st := 3 }).st = 2 ∧
    (tick { State.reset with dt := 2, halted := true }).dt = 1 := by decide

/-- K9. -/
theorem test_key_event :
    (keyEvent 7 true State.reset).key = 0x0080 ∧ (keyEvent 7 true (keyEvent 7 true State.reset)).key = 0x0080 ∧
    (keyEvent 7 false (keyEvent 7 true State.reset)).key = 0x0000 := by decide

/-- X2. -/
theorem test_load :
    (loadImage [0x12, 0x34, 0x56] State.reset).1 = .ok ∧
    (loadImage [0x12, 0x34, 0x56] State.reset).2.mem = [(0x200, 0x12), (0x201, 0x34), (0x202, 0x56)] := by decide

/-- X1: the font and what follows it. -/
theorem test_reset_memory :
    State.reset.readByte 0x000 = 0xF0 ∧ State.reset.readByte 0x04F = 0x80 ∧ State.reset.readByte 0x050 = 0x00 ∧
    State.reset.pc = 0x0200 := by decide

/-- U16, U24, X3: a run that does not begin with `RESET` is refused, and so is a step on a rejected image; a step with no `LOAD`
is none of these. -/
theorem test_machineRun :
    machineRun defaultConfig 0 [.step] = .refused .beforeReset ∧
    nextWith (machineRun defaultConfig 0 [.reset, .step]) (fun t => t.pc == 0x0000) = true ∧
    runBooted .rejected State.reset [.tick, .step] = .refused .loadRejected := ⟨rfl, by decide, rfl⟩

/-- Log entry 17, R260: what an event makes of the boot, at the largest image and one byte more. -/
theorem test_boot :
    Boot.noProgram.after (.load (List.replicate 0xE00 0)) = .loaded ∧
    Boot.noProgram.after (.load (List.replicate 0xE01 0)) = .rejected ∧
    Boot.loaded.after (.load (List.replicate 0xE01 0)) = .loaded ∧ Boot.rejected.after .reset = .noProgram := by
  refine ⟨?_, ?_, ?_, rfl⟩ <;> (unfold Boot.after; dsimp only; rw [List.length_replicate]; rfl)

/-! ### Witnesses: for each obligation with hypotheses, values that meet them, at the ends of each clause's range -/

theorem witness_DecodeInvertsEncode : (Instr.sys 0x0E1).wellFormed = true ∧ (Instr.drw 0xF 0x0 0xF).wellFormed = true := by decide

theorem witness_EncodeInvertsDecode : decodeWord 0x8F1E = .ok (.shl 0xF 0x1) := by decide

/-- A core that can fetch from the last address. -/
def atTop : State := ({ State.reset with pc := 0x0FFE }.writeByte 0xFFE 0x60).writeByte 0xFFF 0x2A

theorem witness_StepRunsDecodedInstr :
    atTop.halted = false ∧ atTop.pc.toNat ≤ 0xFFE ∧
    decodeWord (atTop.readByte atTop.pc.toNat ++ atTop.readByte (atTop.pc.toNat + 1)) = .ok (.ldImm 0x0 0x2A) := by decide

/-- A core that an empty stack has halted (CT7). -/
def haltedState : State := State.reset.raise .stackUnderflow 0x00EE

theorem witness_HaltedStepChangesNothing : haltedState.halted = true := by decide

theorem witness_FetchBeyondMemoryRaises :
    { State.reset with pc := 0x0FFF }.halted = false ∧ 0xFFE < { State.reset with pc := 0x0FFF }.pc.toNat := by decide

/-- An illegal word at the last address that can be fetched from. -/
def illegalAtTop : State := ({ State.reset with pc := 0x0FFE }.writeByte 0xFFE 0x51).writeByte 0xFFF 0x21

theorem witness_IllegalWordRaisesDecode :
    illegalAtTop.halted = false ∧ illegalAtTop.pc.toNat ≤ 0xFFE ∧ decodeWord illegalAtTop.fetchWord = .error (.group5 0x1) := by
  decide

/-- Both ends of DIRTY: a completed clear and a completed draw, and a step that is neither. -/
theorem witness_DirtyMarksCompletedDraw :
    (State.reset.withFetchWord 16 0x00E0).halted = false ∧
    nextWith (step (State.reset.withFetchWord 16 0x00E0)) (fun t => t.dirty) = true ∧
    (State.reset.withFetchWord 16 0x00E0).nextInstr = some .cls ∧
    (State.reset.withFetchWord 16 0xD010).nextInstr = some (.drw 0x0 0x1 0x0) ∧
    (Instr.drw 0x0 0x1 0x0).check (State.reset.withFetchWord 16 0xD010) = none ∧
    nextWith (step (State.reset.withFetchWord 16 0xD010)) (fun t => t.dirty) = true ∧
    nextWith (step (State.reset.withFetchWord 16 0x1200)) (fun t => !t.dirty) = true := by decide

/-- Both clauses: a step with no error and one with, in a core that is not halted. -/
theorem witness_ErrorsAreRecordedAndPrecise :
    State.reset.halted = false ∧ nextWith (step State.reset) (fun t => t.status == 0) = true ∧
    illegalAtTop.halted = false ∧ nextWith (step illegalAtTop) (fun t => t.status != 0) = true := by decide

/-- Every cause, and none. -/
theorem witness_StatusNamesCause :
    State.reset.nextCause = none ∧ illegalAtTop.nextCause = some .decode ∧
    { State.reset with pc := 0x0FFF }.nextCause = some .fetchBounds ∧
    (State.reset.withFetchWord 16 0x00EE).nextCause = some .stackUnderflow ∧
    ({ State.reset with sp := 16 }.withFetchWord 16 0x2200).nextCause = some .stackOverflow ∧
    ((regs [(0, 0x10)]).withFetchWord 16 0xF029).nextCause = some .operandRange ∧
    ({ State.reset with i := 0x0FFE }.withFetchWord 16 0xF033).nextCause = some .memBounds := by decide

theorem witness_CallPushesReturnAddress :
    State.reset.sp.val < 16 ∧ { State.reset with sp := 15 }.sp.val < 16 := by decide

theorem witness_ReturnPopsAddress :
    { State.reset with sp := 1 }.sp.val ≠ 0 ∧ { State.reset with sp := 16 }.sp.val ≠ 0 := by decide

theorem witness_StackErrorsHalt : { State.reset with sp := 16 }.sp.val = 16 ∧ State.reset.sp.val = 0 := by decide

/-- A call with 15 return addresses stacked, and the return at once. -/
theorem witness_CallThenReturn :
    ∃ t u : State, exec (.call 0x300) { State.reset with sp := 15 } = .next t ∧ { State.reset with sp := 15 }.sp.val < 16 ∧
      u.sp = t.sp ∧ ∀ (k : Nat) (_ : k < 16), k < t.sp.val → u.stack[k] = t.stack[k] :=
  ⟨_, _, rfl, by decide, rfl, fun _ _ _ => rfl⟩

/-- The clause on VF, whose hypothesis is that VF is not the destination. -/
theorem witness_AddSetsCarry : (0x0#4 : Reg) ≠ vf ∧ (0xE#4 : Reg) ≠ vf := by decide

/-- The clauses on VF, and both settings of CFG_BORROW_STRICT. -/
theorem witness_SubtractSetsNoBorrow :
    (0x0#4 : Reg) ≠ vf ∧ State.reset.cfg.borrowStrict = false ∧
    { State.reset with cfg := { defaultConfig with borrowStrict := true } }.cfg.borrowStrict = true := by decide

theorem witness_ShiftsPutOutBit :
    (0x81 : Nat) = ((regs [(0, 0x81)]).reg (if (regs [(0, 0x81)]).cfg.shiftSrcVy then 0x1 else 0x0)).toNat ∧ (0x0#4 : Reg) ≠ vf := by
  decide

/-- The inner clause: a bit that is 0 in kk. -/
theorem witness_RandomByteIsMasked : (0x0F#8 : Byte).getLsbD 7 = false := by decide

/-- Both clauses: a flag writer that completes, and an instruction that writes no flag. -/
theorem witness_OnlyFlagWritersTouchVf :
    (∃ t, exec (.addReg 0x0 0x1) State.reset = .next t) ∧ (Instr.addReg 0x0 0x1).destIsVf = false ∧
    (Instr.addReg 0x0 0x1).writesFlag = true ∧ (Instr.addReg 0x0 0x1).check State.reset = none ∧
    (∃ t, exec (.addImm 0xE 0x01) State.reset = .next t) ∧ (Instr.addImm 0xE 0x01).destIsVf = false ∧
    (Instr.addImm 0xE 0x01).writesFlag = false :=
  ⟨⟨_, rfl⟩, by decide, by decide, by decide, ⟨_, rfl⟩, by decide, by decide⟩

theorem witness_GlyphAddress :
    ((regs [(0, 0x0F)]).reg 0).toNat ≤ 0xF ∧ ((regs [(0, 0x10)]).reg 0).toNat > 0xF := by decide

theorem witness_DecimalDigitsStored : { State.reset with i := 0x0FFD }.i.toNat + 2 ≤ 0xFFF := by decide

theorem witness_RegistersStored :
    { State.reset with i := 0x0FF0 }.i.toNat + (0xF#4 : Reg).toNat ≤ 0xFFF ∧
    { State.reset with cfg := { defaultConfig with legacyIInc := true } }.cfg.legacyIInc = true := by decide

theorem witness_RegistersLoaded :
    { State.reset with i := 0x0FFF }.i.toNat + (0x0#4 : Reg).toNat ≤ 0xFFF ∧
    { State.reset with cfg := { defaultConfig with legacyIInc := true } }.cfg.legacyIInc = true := by decide

/-- Each of the four instructions one address too far. -/
theorem witness_OutOfBoundsAccessRaises :
    { State.reset with i := 0x0FFE }.i.toNat + 2 > 0xFFF ∧
    { State.reset with i := 0x0FF1 }.i.toNat + (0xF#4 : Reg).toNat > 0xFFF ∧
    (if (0x3#4 : Nibble) = 0 then 0 else { State.reset with i := 0x0FFD + 1 }.i.toNat + (0x3#4 : Nibble).toNat - 1) > 0xFFF := by
  decide

/-- The load follows the store at once. -/
theorem witness_StoreThenLoadRestores :
    ∃ t r : State, { State.reset with i := 0x0FFE }.i.toNat + (0x1#4 : Reg).toNat ≤ 0xFFF ∧
      exec (.storeRegs 0x1) { State.reset with i := 0x0FFE } = .next t ∧ t.i = { State.reset with i := 0x0FFE }.i ∧
      exec (.loadRegs 0x1) t = .next r ∧ (0x1#4 : Reg).toNat ≤ (0x1#4 : Reg).toNat :=
  ⟨_, _, by decide, rfl, rfl, rfl, by decide⟩

/-- The first and the last of three digits, and the first and the last of two registers, stored over the next instruction. -/
theorem witness_NextFetchSeesStores :
    (∃ t : State, exec (.ldB 0x0) { regs [(0, 234)] with i := 0x0202 } = .next t ∧
      { regs [(0, 234)] with i := 0x0202 }.i.toNat + 2 ≤ 0xFFF ∧ 0 < 3 ∧
      (2#8).toNat = ({ regs [(0, 234)] with i := 0x0202 }.reg 0x0).toNat / 10 ^ (2 - 0) % 10 ∧ 0x202 + 0 = t.pc.toNat) ∧
    (∃ t : State, exec (.ldB 0x0) { regs [(0, 234)] with i := 0x0201 } = .next t ∧ 2 < 3 ∧
      (4#8).toNat = ({ regs [(0, 234)] with i := 0x0201 }.reg 0x0).toNat / 10 ^ (2 - 2) % 10 ∧ 0x201 + 2 = t.pc.toNat + 1) ∧
    (∃ t : State, exec (.storeRegs 0x1) { regs [(0, 0x62), (1, 0x77)] with i := 0x0202 } = .next t ∧
      { regs [(0, 0x62), (1, 0x77)] with i := 0x0202 }.i.toNat + (0x1#4 : Reg).toNat ≤ 0xFFF ∧ 0 ≤ (0x1#4 : Reg).toNat ∧
      0x62#8 = { regs [(0, 0x62), (1, 0x77)] with i := 0x0202 }.reg (BitVec.ofNat 4 0) ∧
      0x77#8 = { regs [(0, 0x62), (1, 0x77)] with i := 0x0202 }.reg (BitVec.ofNat 4 1) ∧
      0x202 + 0 = t.pc.toNat ∧ 0x202 + 1 = t.pc.toNat + 1) :=
  ⟨⟨_, rfl, by decide, by decide, by decide, by decide⟩, ⟨_, rfl, by decide, by decide, by decide⟩,
    _, rfl, by decide, by decide, by decide, by decide, by decide, by decide⟩

theorem witness_GroupEightGapsAreIllegal : (0x8#4 : Nibble) ∈ [0x8#4, 0x9#4, 0xA#4, 0xB#4, 0xC#4, 0xD#4, 0xF#4] := by decide

/-- n = 0 outside memory, and the last sprite that fits; a pixel under a 1 bit, and one under none. -/
theorem witness_DrawXorsPixels :
    ((0x0#4 : Nibble) = 0 ∨ { State.reset with i := 0x1234 }.i.toNat + (0x0#4 : Nibble).toNat - 1 ≤ 0xFFF) ∧
    ((0x2#4 : Nibble) = 0 ∨ { State.reset with i := 0x0FFE }.i.toNat + (0x2#4 : Nibble).toNat - 1 ≤ 0xFFF) ∧
    State.reset.SpriteOn 0 0 5 0 0 ∧ ¬State.reset.SpriteOn 0 0 5 1 1 := by
  refine ⟨.inl rfl, .inr (by decide), ⟨0, by decide, 0, by decide, by decide⟩, ?_⟩
  rintro ⟨j, hj, k, hk, hr, hc, hb⟩
  interval_cases j <;> interval_cases k <;> revert hr hc hb <;> decide

/-- The glyph 0 drawn twice at the origin. -/
theorem witness_DrawTwiceRestores :
    ∃ t u : State, (0x0#4 : Reg) ≠ vf ∧ (0x1#4 : Reg) ≠ vf ∧ State.reset.i.toNat + (0x5#4 : Nibble).toNat - 1 ≤ 0xFFF ∧
      exec (.drw 0x0 0x1 0x5) State.reset = .next t ∧ exec (.drw 0x0 0x1 0x5) t = .next u :=
  ⟨_, _, by decide, by decide, by decide, rfl, rfl⟩

theorem witness_SkipIfKeyHeld :
    ((regs [(2, 0x0F)]).reg 2).toNat ≤ 0xF ∧ ((regs [(2, 0x10)]).reg 2).toNat > 0xF := by decide

theorem witness_SkipIfKeyUp :
    ((regs [(2, 0x00)]).reg 2).toNat ≤ 0xF ∧ ((regs [(2, 0xFF)]).reg 2).toNat > 0xF := by decide

/-- A wait not yet begun; one in which key 4 is held and not fresh; one in which keys 4 and 7 are fresh and 15 is held on. -/
theorem witness_KeyWaitAttempts :
    State.reset.awaiting = false ∧
    ({ State.reset with awaiting := true, key := 0x0010, keyPrev := 0x0010 }.awaiting = true ∧
      ∀ k < 16, (0x0010#16).getLsbD k = true → (0x0010#16).getLsbD k = true) ∧
    ((4 < 16) ∧ (0x8090#16).getLsbD 4 = true ∧ (0x8000#16).getLsbD 4 = false ∧
      ∀ j < 4, (0x8090#16).getLsbD j = true → (0x8000#16).getLsbD j = true) ∧
    ((15 < 16) ∧ (0x8000#16).getLsbD 15 = true ∧ (0x0000#16).getLsbD 15 = false ∧
      ∀ j < 15, (0x8000#16).getLsbD j = true → (0x0000#16).getLsbD j = true) := by decide

/-- The largest image that fits and the smallest that does not (S8). -/
theorem witness_LoadPlacesImage :
    (List.replicate 0xE00 (0xAB : Byte)).length ≤ 0xE00 ∧ 0xE00 < (List.replicate 0xE01 (0xAB : Byte)).length := by
  simp only [List.length_replicate]; decide

theorem reset_Inv : State.reset.Inv where
  mem := by decide
  status := by decide
  seen := by decide
  halt := by decide
  skip := by decide

theorem haltedState_Inv : haltedState.Inv where
  mem := by decide
  status := by decide
  seen := by decide
  halt := by decide
  skip := by decide

theorem witness_StepKeepsInvariant :
    (State.reset.Inv ∧ ∃ t, step State.reset = .next t) ∧ (haltedState.Inv ∧ ∃ t, step haltedState = .next t) :=
  ⟨⟨reset_Inv, _, rfl⟩, haltedState_Inv, _, rfl⟩

/-- A sequence with every event in it, and a run of the machine. -/
theorem witness_EveryRunKeepsInvariant :
    (State.reset.Inv ∧
      ∃ t, runEvents State.reset [.load [0x12, 0x00], .keyEvent 4 true, .step, .tick, .reset] = .next t) ∧
    ∃ t, machineRun defaultConfig 0 [.reset, .load [0x12, 0x00], .step, .tick] = .next t :=
  ⟨⟨reset_Inv, _, rfl⟩, _, rfl⟩

/-- The three clauses on runs: an image of the largest size, no `RESET` first, an image one byte larger. -/
theorem witness_EveryStepAnswersNext :
    (∀ bytes, Event.load bytes ∈ [Event.load (List.replicate 0xE00 0x00), .step] → bytes.length ≤ 0xE00) ∧
    [Event.load [0x12, 0x00], .reset].head? ≠ some .reset ∧ ([] : List Event).head? ≠ some .reset ∧
    0xE00 < (List.replicate 0xE01 (0x00 : Byte)).length := by
  refine ⟨fun bytes h => ?_, by decide, by decide, by rw [List.length_replicate]; decide⟩
  simp only [List.mem_cons, Event.load.injEq, reduceCtorEq, List.not_mem_nil, or_false] at h
  rw [h, List.length_replicate]

/-- A core that waits for a key at 0x200. -/
def waiting : State := { State.reset.withFetchWord 16 0xF30A with awaiting := true }

theorem waiting_AwaitInv : waiting.awaiting = true ∧ waiting.AwaitInv :=
  ⟨rfl, fun _ => ⟨by decide, 0x3, by decide⟩⟩

theorem witness_AwaitMeansKeyWaitAtPc :
    (∀ bytes, Event.load bytes ∉ [Event.step, Event.keyEvent 4 true, Event.step]) ∧ waiting.AwaitInv ∧
    ∃ t, runEvents waiting [.step, .keyEvent 4 true, .step] = .next t :=
  ⟨by simp, waiting_AwaitInv.2, _, rfl⟩

theorem witness_OnlyResetLeavesHalt :
    Event.reset ∉ [Event.step, .tick, .load [0x12], .keyEvent 3 true] ∧ haltedState.halted = true ∧
    ∃ t, runEvents haltedState [.step, .tick, .load [0x12], .keyEvent 3 true] = .next t :=
  ⟨by decide, by decide, _, rfl⟩

theorem witness_InstructionsKeepToTheirWrites :
    (∃ t, exec (.storeRegs 0xF) { State.reset with i := 0x0FF0 } = .next t) ∧
    (∃ t, exec (.storeRegs 0xF) { State.reset with i := 0x0FF1 } = .next t) := ⟨⟨_, rfl⟩, ⟨_, rfl⟩⟩

/-- Both clauses: `Fx18`, and another instruction. -/
theorem witness_SoundTimerIsNeverRead :
    (∃ t, exec (.ldStVx 0x1) State.reset = .next t) ∧ (∃ t, exec (.ldVxDt 0x1) State.reset = .next t) ∧
    ∀ x, Instr.ldVxDt 0x1 ≠ .ldStVx x := ⟨⟨_, rfl⟩, ⟨_, rfl⟩, fun _ => nofun⟩

theorem witness_StatusRegistersAreNeverRead : ∃ t, exec .ret State.reset = .next t := ⟨_, rfl⟩

/-- The state after `RESET` and the load of `1200`, a jump to itself at 0x200. -/
def selfJump : State := (loadImage [0x12, 0x00] State.reset).2

theorem selfJump_SelfJump : selfJump.SelfJump := ⟨by decide, 0x200, by decide, .inl (by decide)⟩

/-- `RESET` alone has ended no run: the empty memory's jump at 0x200 does not lead to 0x200. -/
theorem reset_not_AtEnd : ¬State.reset.AtEnd := by
  rintro (h | ⟨_, nnn, hp, hi⟩)
  · exact absurd (show State.reset.halted = true from h) (by decide)
  · rw [show State.reset.nextInstr = some (.sys 0x000) by decide] at hi
    rcases hi with hi | hi
    · cases hi
    · injection hi with hi
      injection hi with hi
      subst hi
      exact absurd hp (by decide)

/-- The run ends, in success, when the program is loaded: P1's ending, the self-jump, at once. -/
theorem selfJump_RunSucceeds :
    RunSucceeds defaultConfig 0 [.reset, .load [0x12, 0x00]] selfJump := by
  refine ⟨⟨rfl, .inr selfJump_SelfJump, fun k hk u hu => ?_⟩, selfJump_SelfJump, by decide⟩
  simp only [List.length_cons, List.length_nil] at hk
  interval_cases k
  · cases hu
  · injection hu with hu
    subst hu
    exact reset_not_AtEnd

/-- Every clause: a self-jump; events that keep it; a run and its end. -/
theorem witness_SelfJumpIsFixedPoint :
    selfJump.SelfJump ∧
    (Event.reset ∉ [Event.step, .tick, .keyEvent 3 true] ∧ (∀ bytes, Event.load bytes ∉ [Event.step, .tick, .keyEvent 3 true]) ∧
      ∃ t, runEvents selfJump [.step, .tick, .keyEvent 3 true] = .next t) ∧
    RunEnds defaultConfig 0 [.reset, .load [0x12, 0x00]] selfJump ∧
    [Event.reset, .load [0x12, 0x00]] <+: [Event.reset, .load [0x12, 0x00]] :=
  ⟨selfJump_SelfJump, ⟨by decide, by simp, _, rfl⟩, selfJump_RunSucceeds.1, List.prefix_rfl⟩

/-- An empty stack ends a run in failure (P9): the return is the first step. -/
theorem ret_RunFails : ∃ t, RunFails defaultConfig 0 [.reset, .load [0x00, 0xEE], .step] t := by
  refine ⟨_, ⟨rfl, .inl rfl, fun k hk u hu => ?_⟩, rfl⟩
  simp only [List.length_cons, List.length_nil] at hk
  interval_cases k
  · cases hu
  · injection hu with hu
    subst hu
    exact reset_not_AtEnd
  · injection hu with hu
    subst hu
    rintro (h | ⟨_, nnn, _, hi⟩)
    · exact Bool.noConfusion (show false = true from h)
    · rw [show State.nextInstr _ = some Instr.ret by decide] at hi
      rcases hi with hi | hi <;> cases hi

/-- A key wait that no key ends: `RESET`, the load of `F00A`, then `STEP` for ever. -/
def keyWaitRun : Nat → Event
  | 0 => .reset
  | 1 => .load [0xF0, 0x0A]
  | _ + 2 => .step

/-- The states of that run before and after the first attempt. -/
def unarmed : State := (loadImage [0xF0, 0x0A] State.reset).2

def armed : State := { unarmed with awaiting := true }

theorem keyWait_not_AtEnd : ¬unarmed.AtEnd ∧ ¬armed.AtEnd := by
  have key : ∀ s : State, s.halted = false → s.nextInstr = some (.ldVxK 0x0) → ¬s.AtEnd := by
    rintro s h0 h1 (h | ⟨_, nnn, _, hi | hi⟩)
    · exact absurd (h0.symm.trans h) (by decide)
    · cases h1.symm.trans hi
    · cases h1.symm.trans hi
  exact ⟨key _ (by decide) (by decide), key _ (by decide) (by decide)⟩

theorem armed_steps (n : Nat) : runBooted .loaded armed (List.replicate n .step) = .next armed := by
  induction n with
  | zero => rfl
  | succ n ih => exact ih

/-- R246: waiting for ever is no end of a run, so the run is unending. -/
theorem keyWaitRun_RunUnending : RunUnending defaultConfig 0 keyWaitRun := by
  refine ⟨fun n => ⟨n + 2, by omega, rfl⟩, fun n hn => ?_⟩
  match n, hn with
  | 1, _ => exact ⟨State.reset, rfl, reset_not_AtEnd⟩
  | 2, _ => exact ⟨unarmed, rfl, keyWait_not_AtEnd.1⟩
  | n + 3, _ =>
    refine ⟨armed, ?_, keyWait_not_AtEnd.2⟩
    have h : (List.range (n + 3)).map keyWaitRun = .reset :: .load [0xF0, 0x0A] :: .step :: List.replicate n .step := by
      simp [List.range_succ_eq_map, keyWaitRun, Function.comp_def]
    rw [h]
    exact armed_steps n

end Sys2Proof.Tests
end

