-- ==== Sys2Proof/Proofs/ControlFlow.lean ====
section
/-! PROOFS. The round trip of one word through the decoder, and the jumps and skips of spec/40_control_flow.md: an instruction
whose meaning is one write of PC goes there and leaves everything else (R123, R125 to R128). -/

namespace Sys2Proof

/-! ### The decoder on the words of format NNN, XKK and XYN -/

/-- R95: a word of group 0 that is neither `00E0` nor `00EE` is `0nnn`. -/
theorem decodeGroup0_wordNnn {nnn : Addr12} (hcls : nnn ≠ 0x0E0#12) (hret : nnn ≠ 0x0EE#12) :
    decodeGroup0 (wordNnn 0x0#4 nnn) = .sys nnn := by
  have ne_of_field (w : Word) (h : nnn ≠ fieldNnn w) : wordNnn 0x0#4 nnn ≠ w :=
    fun e => h (by rw [← e, fieldNnn_wordNnn])
  rw [decodeGroup0, if_neg (ne_of_field 0x00E0#16 hcls), if_neg (ne_of_field 0x00EE#16 hret), fieldNnn_wordNnn]

/-- R92, R95: decoding the word of a well-formed instruction gives the instruction back. -/
theorem decodeWord_encode {i : Instr} (h : i.wellFormed = true) : decodeWord (encode i) = .ok i := by
  cases i with
  | cls | ret => rfl
  | sys nnn =>
    obtain ⟨hcls, hret⟩ : nnn ≠ 0x0E0#12 ∧ nnn ≠ 0x0EE#12 := by simpa [Instr.wellFormed] using h
    simp [encode, decodeWord, decodeGroup0_wordNnn hcls hret]
  | jp | call | ldI | jpV0 => simp [encode, decodeWord]
  | seImm | sneImm | ldImm | addImm | rnd => simp [encode, decodeWord]
  | seReg | sneReg | drw => simp [encode, decodeWord]
  | ldReg | orReg | andReg | xorReg | addReg | subReg | shr | subnReg | shl => simp [encode, decodeWord, decodeGroup8]
  | skp | sknp => simp [encode, decodeWord, decodeGroupE]
  | ldVxDt | ldVxK | ldDtVx | ldStVx | addI | ldF | ldB | storeRegs | loadRegs =>
    simp [encode, decodeWord, decodeGroupF]

end Sys2Proof

namespace Sys2Proof.Machine

variable {s : State} {i : Instr}

/-! ### Meanings that write PC alone -/

/-- An instruction that sets PC completes there and changes nothing else. -/
theorem exec_jumps {target : Word} (hexec : exec i s = .next (s.setPc target)) :
    ∃ t, exec i s = .next t ∧ t.pc.toNat = target.toNat ∧ Frame {} s t :=
  ⟨_, hexec, rfl, (Frame.setPc_iff s {} s target).mpr (Frame.refl s {})⟩

/-- An instruction that skips on a condition completes at PC + 4 or PC + 2 modulo 2^16 (R120) and changes nothing else. -/
theorem exec_skips {cond : Bool} {p : Prop} [Decidable p] (hexec : exec i s = .next (s.skipIf cond))
    (hcond : cond = true ↔ p) :
    ∃ t, exec i s = .next t ∧ t.pc.toNat = (s.pc.toNat + if p then 4 else 2) % 2 ^ 16 ∧ Frame {} s t := by
  refine ⟨_, hexec, ?_, (Frame.skipIf_iff s {} s cond).mpr (Frame.refl s {})⟩
  rw [State.skipIf_pc_toNat]
  simp only [hcond]

/-- Settles O16: the target of `1nnn` is the field nnn itself, which enters PC zero-extended. -/
theorem jumpSetsPc : Obligations.JumpSetsPc := by
  intro nnn s
  refine ⟨decodeWord_encode (i := .jp nnn) rfl, ?_⟩
  rw [← immNnn_toNat nnn]
  exact exec_jumps rfl

/-- Settles O18: both are a skip on a comparison of Vx with kk. -/
theorem constantSkips : Obligations.ConstantSkips := by
  intro x kk s
  exact ⟨⟨decodeWord_encode (i := .seImm x kk) rfl, exec_skips (cond := s.reg x == kk) rfl beq_iff_eq⟩,
    ⟨decodeWord_encode (i := .sneImm x kk) rfl, exec_skips (cond := s.reg x != kk) rfl bne_iff_ne⟩⟩

/-- Settles O19: both are a skip on a comparison of Vx with Vy. -/
theorem registerSkips : Obligations.RegisterSkips := by
  intro x y s
  exact ⟨⟨decodeWord_encode (i := .seReg x y) rfl, exec_skips (cond := s.reg x == s.reg y) rfl beq_iff_eq⟩,
    ⟨decodeWord_encode (i := .sneReg x y) rfl, exec_skips (cond := s.reg x != s.reg y) rfl bne_iff_ne⟩⟩

end Sys2Proof.Machine
end

