-- ==== Sys2Proof/Proofs/LoadAlu.lean ====
section
/-! PROOFS. The loads, logic and wrapping addition of spec/41_load_alu.md: an instruction whose meaning is one write of Vx
leaves the written byte there, moves PC on by 2 and touches nothing else (R141 to R146). -/

namespace Sys2Proof.Machine

variable {s : State} {i : Instr}

/-- A write of a register that the write set holds stays in the frame (R20). -/
theorem Frame.setReg {w : Writes} {t : State} {x : Reg} (hx : w.regs x = true) (h : Frame w s t) (b : Byte) :
    Frame w s (t.setReg x b) :=
  { h with
    regs := fun y hy => by
      have hne : y ≠ x := fun e => by simp [e, hx] at hy
      rw [State.setReg_reg, if_neg hne, h.regs y hy] }

/-- An instruction that writes the byte b to Vx and goes on completes with b in Vx (VF is an ordinary register here, R20), PC + 2
modulo 2^16, and everything else as before. -/
theorem exec_writesReg {x : Reg} {b : Byte} (hexec : exec i s = .next (s.setReg x b).advance) :
    ∃ t, exec i s = .next t ∧ t.reg x = b ∧ t.pc.toNat = (s.pc.toNat + 2) % 2 ^ 16 ∧ Frame { regs := only x } s t := by
  refine ⟨_, hexec, by simp, by simp, ?_⟩
  rw [Frame.advance_iff]
  exact (Frame.refl s _).setReg (by simp [only]) b

/-- Settles O24: each of the five is one write of Vx, of kk or of a bitwise function of Vx and Vy. -/
theorem loadsAndLogic : Obligations.LoadsAndLogic := by
  intro x y kk s
  simp only [List.forall_mem_cons]
  exact ⟨⟨decodeWord_encode (i := .ldImm x kk) rfl, exec_writesReg rfl⟩,
    ⟨decodeWord_encode (i := .ldReg x y) rfl, exec_writesReg rfl⟩,
    ⟨decodeWord_encode (i := .orReg x y) rfl, exec_writesReg rfl⟩,
    ⟨decodeWord_encode (i := .andReg x y) rfl, exec_writesReg rfl⟩,
    ⟨decodeWord_encode (i := .xorReg x y) rfl, exec_writesReg rfl⟩, List.forall_mem_nil _⟩

/-- Settles O25: the byte written to Vx is Vx + kk, and addition of bytes is addition modulo 256 (R140). -/
theorem addImmediateWraps : Obligations.AddImmediateWraps := by
  intro x kk s
  obtain ⟨t, hexec, hx, hpc, hframe⟩ := exec_writesReg (i := .addImm x kk) (s := s) rfl
  refine ⟨decodeWord_encode (i := .addImm x kk) rfl, t, hexec, ?_, hpc, hframe⟩
  rw [hx, BitVec.toNat_add]

end Sys2Proof.Machine
end

