-- ==== Sys2Proof/Proofs/IndexMemory.lean ====
section
/-! PROOFS. The load of the index register, spec/42_index_memory.md R171. -/

namespace Sys2Proof.Machine

variable {s : State}

/-- A write of I stays in every frame whose write set holds I. -/
theorem Frame.setI {w : Writes} {t : State} (hw : w.index = true) (h : Frame w s t) (a : Word) : Frame w s (t.setI a) :=
  { h with index := fun hindex => by simp [hw] at hindex }

/-- Settles O31: the one write is of I, and the field nnn enters it zero-extended. -/
theorem loadIndex : Obligations.LoadIndex := by
  intro nnn s
  have hframe : Frame { index := true } s (s.setI (immNnn nnn)) := (Frame.refl s _).setI rfl _
  refine ⟨decodeWord_encode (i := .ldI nnn) rfl, (s.setI (immNnn nnn)).advance, rfl, ?_, ?_, ?_⟩
  · rw [State.advance_i, State.setI_i, immNnn_toNat]
  · rw [State.advance_pc_toNat, State.setI_pc]
  · rwa [Frame.advance_iff]

end Sys2Proof.Machine
end

