-- ==== Sys2Proof/Proofs/Display.lean ====
section
/-! PROOFS. The clearing of the display, spec/43_display.md R191. -/

namespace Sys2Proof.Machine

variable {s : State}

/-- Every pixel of the blank screen is off. -/
@[simp] theorem pixel_blankScreen (r : Fin 32) (c : Fin 64) : pixel blankScreen r c = false := by
  simp [pixel, blankScreen]

/-- A write of the screen, which sets DIRTY too, stays in every frame whose write set holds the screen. -/
theorem Frame.setScreen {w : Writes} {t : State} (hw : w.screen = true) (h : Frame w s t) (f : Framebuffer) :
    Frame w s (t.setScreen f) :=
  { h with screen := fun hscreen => by simp [hw] at hscreen }

/-- Settles O40: the one write is of the blank screen, which VF is no part of. -/
theorem clearScreen : Obligations.ClearScreen := by
  refine ⟨decodeWord_encode (i := .cls) rfl, fun s => ⟨(s.setScreen blankScreen).advance, rfl, fun r c => ?_, ?_, ?_, ?_⟩⟩
  · rw [State.advance_fb, State.setScreen_fb, pixel_blankScreen]
  · rw [State.advance_dirty, State.setScreen_dirty]
  · rw [State.advance_pc_toNat, State.setScreen_pc]
  · rw [Frame.advance_iff]
    exact (Frame.refl s _).setScreen rfl blankScreen

end Sys2Proof.Machine
end

