-- ==== Sys2Proof/Proofs/KeysTimers.lean ====
section
/-! PROOFS. The read of the delay timer, spec/44_keys_timers.md R203. -/

namespace Sys2Proof.Machine

/-- Settles O46: the one write is of Vx, so the frame, whose write set holds no timer, keeps DT. -/
theorem delayTimerRead : Obligations.DelayTimerRead := by
  intro x s
  exact ⟨decodeWord_encode (i := .ldVxDt x) rfl, exec_writesReg rfl⟩

end Sys2Proof.Machine
end

