-- ==== Sys2Proof/Proofs/Hazards.lean ====
section
/-! PROOFS. A fetch reads memory as it stands (R74), so a byte that `Fx33` or `Fx55` has just stored is in the next word
fetched, spec/70_reset_and_hazards.md R272. -/

namespace Sys2Proof.Machine

variable {s t : State} {x : Reg} {k : Nat}

/-! ### The two bytes of the word fetched -/

/-- R63: the byte at PC is the high byte of the word fetched. -/
theorem State.fetchWord_highByte (s : State) : highByte s.fetchWord = s.readByte s.pc.toNat :=
  highByte_wordOfBytes _ _

/-- R63: the byte at PC + 1 is the low byte of the word fetched. -/
theorem State.fetchWord_lowByte (s : State) : lowByte s.fetchWord = s.readByte (s.pc.toNat + 1) :=
  lowByte_wordOfBytes _ _

/-! ### The bytes that the two stores leave in memory -/

/-- R64, R72: the k-th of the bytes stored from address a on is read back at a + k. -/
theorem State.storeBytes_readByte_add (s : State) (a : Nat) {bs : List Byte} (hk : k < bs.length) :
    (s.storeBytes a bs).readByte (a + k) = bs[k] := by
  simp [State.storeBytes_readByte, hk]

/-- R174: a byte has three decimal digits. -/
@[simp] theorem decimalDigits_length (b : Byte) : (decimalDigits b).length = 3 := rfl

/-- R174: the k-th of the three digits is the one of weight 10^(2 - k). -/
theorem decimalDigits_getElem_toNat (b : Byte) (hk : k < (decimalDigits b).length) :
    (decimalDigits b)[k].toNat = b.toNat / 10 ^ (2 - k) % 10 := by
  have hb := b.isLt
  match k, hk with
  | 0, _ | 1, _ | 2, _ => simp [decimalDigits]; omega

/-- R174: an `Fx33` inside memory leaves the k-th digit of Vx at I + k. -/
theorem exec_ldB_readByte (hexec : exec (.ldB x) s = .next t) (hin : s.i.toNat + 2 ≤ 0xFFF) (hk : k < 3) :
    (t.readByte (s.i.toNat + k)).toNat = (s.reg x).toNat / 10 ^ (2 - k) % 10 := by
  have hstores : exec (.ldB x) s = .next (s.storeBytes s.i.toNat (decimalDigits (s.reg x))).advance :=
    if_neg (by simpa [State.effAddr] using hin)
  have hlen : k < (decimalDigits (s.reg x)).length := by rwa [decimalDigits_length]
  obtain rfl := Host.Outcome.next.inj (hexec.symm.trans hstores)
  rw [State.advance_readByte, State.storeBytes_readByte_add s _ hlen, decimalDigits_getElem_toNat]

/-- R175: an `Fx55` inside memory leaves Vk at I + k for each k up to x. -/
theorem exec_storeRegs_readByte (hexec : exec (.storeRegs x) s = .next t) (hin : s.i.toNat + x.toNat ≤ 0xFFF)
    (hk : k ≤ x.toNat) : t.readByte (s.i.toNat + k) = s.reg (BitVec.ofNat 4 k) := by
  have hstores : exec (.storeRegs x) s =
      .next ((s.storeBytes s.i.toNat (s.regsBelow (x.toNat + 1))).setI (s.indexAfterBulk x)).advance :=
    if_neg (by simpa [State.effAddr] using hin)
  have hlen : k < (s.regsBelow (x.toNat + 1)).length := by rw [State.regsBelow_length]; omega
  obtain rfl := Host.Outcome.next.inj (hexec.symm.trans hstores)
  rw [State.advance_readByte, State.setI_readByte, State.storeBytes_readByte_add s _ hlen, State.regsBelow_getElem]

/-- Settles O39: both stores leave b at I + k in the memory of t, and the word t fetches is the two bytes of that memory at PC
and PC + 1. -/
theorem nextFetchSeesStores : Obligations.NextFetchSeesStores := by
  intro x s t k b h
  have hstored : t.readByte (s.i.toNat + k) = b := by
    obtain ⟨hexec, hin, hk, hb⟩ | ⟨hexec, hin, hk, hb⟩ := h
    · exact BitVec.eq_of_toNat_eq ((exec_ldB_readByte hexec hin hk).trans hb.symm)
    · exact (exec_storeRegs_readByte hexec hin hk).trans hb.symm
  refine ⟨fun hpc => ?_, fun hpc => ?_⟩
  · rw [State.fetchWord_highByte, ← hpc, hstored]
  · rw [State.fetchWord_lowByte, ← hpc, hstored]

end Sys2Proof.Machine
end

section
/-! PROOFS. The decoder and the encoder are inverse to each other, and the decoder agrees with the opcode map
(spec/30_encoding.md R91 to R98). -/

namespace Sys2Proof

variable {w : Word} {i : Instr}

/-! ### The decoder, inverted (R92, R95) -/

/-- R63, R91: the bytes of a word in the order of their addresses decode as the word does. -/
theorem decode_bytesOfWord (w : Word) (rest : List Byte) :
    decode (bytesOfWord w ++ rest) = (decodeWord w).map fun i => (i, rest) := by
  show (decodeWord (wordOfBytes (highByte w) (lowByte w))).map (fun i => (i, rest)) = _
  rw [wordOfBytes_high_low]

/-- Settles O1: the two bytes are those of one word, and a word decodes to the instruction it encodes. -/
theorem decodeInvertsEncode : Obligations.DecodeInvertsEncode := by
  intro i rest hwf
  rw [encodeBytes, decode_bytesOfWord, decodeWord_encode hwf]
  rfl

/-- R92: a word is its fields in each of the formats NNN, XKK and XYN. -/
theorem wordNnn_of_fieldOp {op : Nibble} (hop : fieldOp w = op) : wordNnn op (fieldNnn w) = w := by
  rw [← hop, wordNnn_fields]

theorem wordXkk_of_fields {op : Nibble} {kk : Byte} (hop : fieldOp w = op) (hkk : fieldKk w = kk) :
    wordXkk op (fieldX w) kk = w := by
  rw [← hop, ← hkk, wordXkk_fields]

theorem wordXyn_of_fields {op n : Nibble} (hop : fieldOp w = op) (hn : fieldN w = n) :
    wordXyn op (fieldX w) (fieldY w) n = w := by
  rw [← hop, ← hn, wordXyn_fields]

/-- The answer of the decoder, if it is an instruction, is a well-formed one whose word is `w`. -/
def Rebuilds (w : Word) (r : Except DecodeError Instr) : Prop := ∀ i, r = .ok i → encode i = w ∧ i.wellFormed = true

theorem Rebuilds.error (e : DecodeError) : Rebuilds w (.error e) := nofun

theorem Rebuilds.ok (hw : encode i = w) (hwf : i.wellFormed = true) : Rebuilds w (.ok i) := by
  rintro _ ⟨⟩
  exact ⟨hw, hwf⟩

/-- The decoder is a chain of tests: it is enough to look at the answer behind each test. -/
theorem Rebuilds.ite {p : Prop} [Decidable p] {r r' : Except DecodeError Instr} (h : p → Rebuilds w r)
    (h' : Rebuilds w r') : Rebuilds w (if p then r else r') := by
  split
  · exact h ‹p›
  · exact h'

/-- R95: `0nnn` is answered for neither of the two fixed words. -/
theorem rebuilds_decodeGroup0 (hop : fieldOp w = 0x0#4) : Rebuilds w (.ok (decodeGroup0 w)) := by
  unfold decodeGroup0
  split
  next hcls => exact .ok hcls.symm rfl
  split
  next hret => exact .ok hret.symm rfl
  next hcls hret =>
    have hw := wordNnn_of_fieldOp hop
    have ne_of_word (a : Addr12) (h : w ≠ wordNnn 0x0#4 a) : fieldNnn w ≠ a := fun e => h (by rw [← e, hw])
    refine .ok hw ?_
    simp [Instr.wellFormed, ne_of_word 0x0E0#12 hcls, ne_of_word 0x0EE#12 hret]

/-- R95, R98: the nine sub-opcodes of group 8, each its own low digit. -/
theorem rebuilds_decodeGroup8 (hop : fieldOp w = 0x8#4) : Rebuilds w (decodeGroup8 w) := by
  unfold decodeGroup8
  iterate 9 refine .ite (fun hn => .ok (wordXyn_of_fields hop hn) rfl) ?_
  exact .error _

/-- R95: the two function codes of group E. -/
theorem rebuilds_decodeGroupE (hop : fieldOp w = 0xE#4) : Rebuilds w (decodeGroupE w) := by
  unfold decodeGroupE
  iterate 2 refine .ite (fun hkk => .ok (wordXkk_of_fields hop hkk) rfl) ?_
  exact .error _

/-- R95: the nine function codes of group F. -/
theorem rebuilds_decodeGroupF (hop : fieldOp w = 0xF#4) : Rebuilds w (decodeGroupF w) := by
  unfold decodeGroupF
  iterate 9 refine .ite (fun hkk => .ok (wordXkk_of_fields hop hkk) rfl) ?_
  exact .error _

/-- The 16 values of a digit. -/
theorem nibble_cases (op : Nibble) :
    op = 0x0#4 ∨ op = 0x1#4 ∨ op = 0x2#4 ∨ op = 0x3#4 ∨ op = 0x4#4 ∨ op = 0x5#4 ∨ op = 0x6#4 ∨ op = 0x7#4 ∨
      op = 0x8#4 ∨ op = 0x9#4 ∨ op = 0xA#4 ∨ op = 0xB#4 ∨ op = 0xC#4 ∨ op = 0xD#4 ∨ op = 0xE#4 ∨ op = 0xF#4 := by
  revert op; decide

/-- R95: for each of the 16 major opcodes, the instruction is made of the fields of the word. -/
theorem rebuilds_decodeWord (w : Word) : Rebuilds w (decodeWord w) := by
  rcases nibble_cases (fieldOp w) with
    hop | hop | hop | hop | hop | hop | hop | hop | hop | hop | hop | hop | hop | hop | hop | hop
  all_goals simp only [decodeWord, hop, BitVec.reduceEq, ↓reduceIte]
  · exact rebuilds_decodeGroup0 hop
  · exact .ok (wordNnn_of_fieldOp hop) rfl
  · exact .ok (wordNnn_of_fieldOp hop) rfl
  · exact .ok (wordXkk_of_fields hop rfl) rfl
  · exact .ok (wordXkk_of_fields hop rfl) rfl
  · exact .ite (fun hn => .ok (wordXyn_of_fields hop hn) rfl) (.error _)
  · exact .ok (wordXkk_of_fields hop rfl) rfl
  · exact .ok (wordXkk_of_fields hop rfl) rfl
  · exact rebuilds_decodeGroup8 hop
  · exact .ite (fun hn => .ok (wordXyn_of_fields hop hn) rfl) (.error _)
  · exact .ok (wordNnn_of_fieldOp hop) rfl
  · exact .ok (wordNnn_of_fieldOp hop) rfl
  · exact .ok (wordXkk_of_fields hop rfl) rfl
  · exact .ok (wordXyn_of_fields hop rfl) rfl
  · exact rebuilds_decodeGroupE hop
  · exact rebuilds_decodeGroupF hop

/-- Settles O2: behind every test of the decoder stands the instruction built from the fields tested. -/
theorem encodeInvertsDecode : Obligations.EncodeInvertsDecode := rebuilds_decodeWord

/-! ### The rows of the opcode map as tests of fields (R96): what it is to have the match value under a row's mask -/

theorem and_mask_op_eq_iff {v : Word} (hv : v &&& 0xF000#16 = v) : w &&& 0xF000#16 = v ↔ fieldOp w = v.extractLsb' 12 4 := by
  change _ ↔ fieldOp w = fieldOp v
  have mask (u : Word) : u &&& 0xF000#16 = wordNnn (fieldOp u) 0 := by
    conv_lhs => rw [← wordNnn_fields u]
    exact wordNnn_mask ..
  rw [← hv, mask w, mask v, fieldOp_wordNnn]
  exact ⟨fun h => by simpa using congrArg fieldOp h, fun h => congrArg (wordNnn · 0) h⟩

theorem and_mask_sub_eq_iff {v : Word} (hv : v &&& 0xF00F#16 = v) :
    w &&& 0xF00F#16 = v ↔ fieldOp w = v.extractLsb' 12 4 ∧ fieldN w = v.extractLsb' 0 4 := by
  change _ ↔ fieldOp w = fieldOp v ∧ fieldN w = fieldN v
  have mask (u : Word) : u &&& 0xF00F#16 = wordXyn (fieldOp u) 0 0 (fieldN u) := by
    conv_lhs => rw [← wordXyn_fields u]
    exact wordXyn_mask_sub ..
  rw [← hv, mask w, mask v, fieldOp_wordXyn, fieldN_wordXyn]
  exact ⟨fun h => ⟨by simpa using congrArg fieldOp h, by simpa using congrArg fieldN h⟩, fun ⟨h, h'⟩ => by rw [h, h']⟩

theorem and_mask_fn_eq_iff {v : Word} (hv : v &&& 0xF0FF#16 = v) :
    w &&& 0xF0FF#16 = v ↔ fieldOp w = v.extractLsb' 12 4 ∧ fieldKk w = v.extractLsb' 0 8 := by
  change _ ↔ fieldOp w = fieldOp v ∧ fieldKk w = fieldKk v
  have mask (u : Word) : u &&& 0xF0FF#16 = wordXkk (fieldOp u) 0 (fieldKk u) := by
    conv_lhs => rw [← wordXkk_fields u]
    exact wordXkk_mask_fn ..
  rw [← hv, mask w, mask v, fieldOp_wordXkk, fieldKk_wordXkk]
  exact ⟨fun h => ⟨by simpa using congrArg fieldOp h, by simpa using congrArg fieldKk h⟩, fun ⟨h, h'⟩ => by rw [h, h']⟩

/-- The mnemonic of the first row that a word selects. -/
def firstRow (w : Word) (rows : List OpcodeRow) : Option String := (rows.find? fun r => r.hit w).map OpcodeRow.mnemonic

theorem firstRow_nil : firstRow w [] = none := rfl

theorem firstRow_cons (m : String) (mask v : Word) (rows : List OpcodeRow) :
    firstRow w (⟨m, mask, v⟩ :: rows) = if w &&& mask = v then some m else firstRow w rows := by
  unfold firstRow
  by_cases h : w &&& mask = v
  · simp [OpcodeRow.hit, h]
  · simp [OpcodeRow.hit, h]

/-- A full mask keeps the whole word; its major opcode says which row is meant, so the two fixed words are of group 0. -/
theorem and_mask_full_eq_iff {v : Word} : w &&& 0xFFFF#16 = v ↔ fieldOp w = v.extractLsb' 12 4 ∧ w = v := by
  rw [show w &&& 0xFFFF#16 = w from BitVec.and_allOnes]
  exact ⟨fun h => ⟨congrArg fieldOp h, h⟩, And.right⟩

/-- The mnemonic of the decoder's answer, if it is an instruction. -/
def mnemonicOf (r : Except DecodeError Instr) : Option String := r.toOption.map Instr.mnemonic

theorem mnemonicOf_ok (i : Instr) : mnemonicOf (.ok i) = some i.mnemonic := rfl

theorem mnemonicOf_error (e : DecodeError) : mnemonicOf (.error e) = none := rfl

theorem ok_decodeGroup0 (w : Word) :
    (.ok (decodeGroup0 w) : Except DecodeError Instr) =
      if w = 0x00E0#16 then .ok .cls else if w = 0x00EE#16 then .ok .ret else .ok (.sys (fieldNnn w)) := by
  rw [decodeGroup0, apply_ite Except.ok, apply_ite Except.ok]

/-- Settles O3: for each major opcode the rows left are tested in the order in which the decoder tests, on the same fields. -/
theorem decodeFollowsOpcodeMap : Obligations.DecodeFollowsOpcodeMap := by
  intro w
  change firstRow w opcodeMap = mnemonicOf (decodeWord w)
  rcases nibble_cases (fieldOp w) with
    hop | hop | hop | hop | hop | hop | hop | hop | hop | hop | hop | hop | hop | hop | hop | hop
  all_goals
    simp (disch := decide) only [opcodeMap, List.cons_append, List.nil_append, firstRow_cons, firstRow_nil,
      and_mask_full_eq_iff, and_mask_op_eq_iff, and_mask_sub_eq_iff, and_mask_fn_eq_iff, BitVec.reduceExtractLsb', hop,
      BitVec.reduceEq, true_and, false_and, ↓reduceIte]
    simp only [decodeWord, decodeGroup8, decodeGroupE, decodeGroupF, hop, BitVec.reduceEq, ↓reduceIte,
      ok_decodeGroup0, apply_ite mnemonicOf, mnemonicOf_ok, mnemonicOf_error, Instr.mnemonic]

/-- A chain of tests answers an error when every test fails and the end of the chain is one. -/
theorem exists_error_ite {p : Prop} [Decidable p] {a : Instr} {r : Except DecodeError Instr} :
    (∃ e, (if p then .ok a else r) = .error e) ↔ ¬p ∧ ∃ e, r = .error e := by
  by_cases h : p
  · simp [h]
  · simp [h]

/-- R93: the field kk is the digits y and n. -/
theorem fieldKk_wordXyn (op x y n : Nibble) : fieldKk (wordXyn op x y n) = y ++ n := by
  refine BitVec.eq_of_getLsbD_eq fun k hk => ?_
  unfold fieldKk
  rw [BitVec.getLsbD_extractLsb', wordXyn_getLsbD, BitVec.getLsbD_append]
  simp [hk]

/-- R98: the sub-opcodes of group 8 that are none of the nine. -/
theorem group8_gaps (n : Nibble) :
    n ∈ [0x8#4, 0x9#4, 0xA#4, 0xB#4, 0xC#4, 0xD#4, 0xF#4] ↔
      n ∉ [0x0#4, 0x1#4, 0x2#4, 0x3#4, 0x4#4, 0x5#4, 0x6#4, 0x7#4, 0xE#4] := by
  revert n; decide

/-- Settles O4: each group answers an error for what its tests leave over, and the 11 other major opcodes have no error. -/
theorem illegalWordsByDigit : Obligations.IllegalWordsByDigit := by
  intro op x y n
  change (∃ e, decodeWord (wordXyn op x y n) = .error e) ↔ _
  rw [group8_gaps]
  rcases nibble_cases op with
    rfl | rfl | rfl | rfl | rfl | rfl | rfl | rfl | rfl | rfl | rfl | rfl | rfl | rfl | rfl | rfl
  all_goals simp [decodeWord, decodeGroup8, decodeGroupE, decodeGroupF, exists_error_ite, fieldKk_wordXyn]

/-- Settles O5: none of the nine tests of group 8 succeeds. -/
theorem groupEightGapsAreIllegal : Obligations.GroupEightGapsAreIllegal := by
  intro x y n hn
  change decodeWord (wordXyn 0x8#4 x y n) = _
  rw [group8_gaps] at hn
  simp only [List.mem_cons, List.not_mem_nil, or_false, not_or] at hn
  simp [decodeWord, decodeGroup8, hn]

/-- Settles O6: each of the eleven words is closed, so the decoder computes. -/
theorem sampleWordsDecode : Obligations.SampleWordsDecode := by
  unfold Obligations.SampleWordsDecode
  decide

end Sys2Proof
end

section
/-! PROOFS. What each instruction does when its one check passes, the error entry when it fails, and the frame of every
instruction (spec/10_state.md R41, spec/60_exceptions.md R220). -/

namespace Sys2Proof.Machine

variable {s t : State} {i : Instr} {w : Writes} {x y : Reg} {n : Nibble} {nnn : Addr12}

/-! ### Frames of the named updates -/

theorem Frame.setFlagThenReg (hvf : w.regs vf = true) (hx : w.regs x = true) (h : Frame w s t) (f b : Byte) :
    Frame w s (t.setFlagThenReg x f b) :=
  (h.setReg hvf f).setReg hx b

theorem Frame.setDt (hw : w.dt = true) (h : Frame w s t) (b : Byte) : Frame w s (t.setDt b) :=
  { h with dt := fun hdt => by simp [hw] at hdt }

theorem Frame.setSt (hw : w.st = true) (h : Frame w s t) (b : Byte) : Frame w s (t.setSt b) :=
  { h with st := fun hst => by simp [hw] at hst }

theorem Frame.setWait (hw : w.keyWait = true) (h : Frame w s t) (a : Bool) (k : Word) : Frame w s (t.setWait a k) :=
  { h with keyWait := fun hwait => by simp [hw] at hwait }

theorem Frame.countDraw (hw : w.draws = true) (h : Frame w s t) : Frame w s t.countDraw :=
  { h with draws := fun hdraws => by simp [hw] at hdraws }

theorem Frame.raise (hw : w.errors = true) (h : Frame w s t) (c : Cause) (word : Word) : Frame w s (t.raise c word) :=
  { h with errors := fun herr => by simp [hw] at herr }

/-- The addresses outside a span. -/
theorem span_eq_false {base len a : Nat} : span base len a = false ↔ a < base ∨ base + len ≤ a := by
  simp [span]
  omega

/-- R71: stored bytes are in the frame when their addresses are. -/
theorem Frame.storeBytes {a : Nat} {bs : List Byte} (hw : ∀ c, w.mem c = false → c < a ∨ a + bs.length ≤ c)
    (h : Frame w s t) : Frame w s (t.storeBytes a bs) := by
  have hmem : ∀ c, w.mem c = false → (t.storeBytes a bs).readByte c = s.readByte c := fun c hc => by
    have := hw c hc
    rw [State.storeBytes_readByte, dif_neg (by omega), h.mem c hc]
  rw [State.storeBytes_eq] at hmem ⊢
  exact { h with mem := hmem }

/-- R176: loaded registers are in the frame when their numbers are. -/
theorem Frame.loadRegsBelow {a count : Nat} (hcount : count ≤ 16) (hw : ∀ y, w.regs y = false → count ≤ y.toNat)
    (h : Frame w s t) : Frame w s (t.loadRegsBelow a count) := by
  have hregs : ∀ y, w.regs y = false → (t.loadRegsBelow a count).reg y = s.reg y := fun y hy => by
    rw [State.loadRegsBelow_reg t a hcount, if_neg (by simpa using hw y hy), h.regs y hy]
  rw [State.loadRegsBelow_eq] at hregs ⊢
  exact { h with regs := hregs }

/-- A frame that holds without the error registers holds with them. -/
theorem Frame.of_errors_false (h : Frame { w with errors := false } s t) : Frame w s t :=
  { h with errors := fun _ => h.errors rfl }

/-- An outcome is one state at most. -/
theorem eq_of_next {o : Host.Outcome State Fault Refusal} {t' : State} (h : o = .next t) (h' : o = .next t') : t = t' :=
  Host.Outcome.next.inj (h.symm.trans h')

/-! ### Completion: the check of an instruction passes -/

/-- R147 to R151: a flag writer with destination x completes with the flag in VF unless VF is the destination, the result in Vx,
PC + 2, and everything else as before. -/
theorem exec_writesFlagThenReg {f b : Byte} (hexec : exec i s = .next (s.setFlagThenReg x f b).advance) :
    ∃ t, exec i s = .next t ∧ t.reg x = b ∧ (x ≠ vf → t.reg vf = f) ∧ t.pc.toNat = (s.pc.toNat + 2) % 2 ^ 16 ∧
      Frame { regs := orVf x } s t := by
  refine ⟨_, hexec, by simp, fun hx => ?_, by simp, ?_⟩
  · rw [State.advance_reg, State.setFlagThenReg_vf s hx]
  · rw [Frame.advance_iff]
    exact (Frame.refl s _).setFlagThenReg (by simp [orVf]) (by simp [orVf]) f b

/-! When the one check of an instruction passes (R231). -/

theorem check_ret : Instr.ret.check s = none ↔ s.sp.val ≠ 0 := by simp [Instr.check]

theorem check_call : (Instr.call nnn).check s = none ↔ s.sp.val < 16 := by
  simp [Instr.check]
  omega

theorem check_drw : (Instr.drw x y n).check s = none ↔ n = 0 ∨ s.i.toNat + n.toNat - 1 ≤ 0xFFF := by
  simp [Instr.check]
  bv_omega

theorem check_skp : (Instr.skp x).check s = none ↔ (s.reg x).toNat ≤ 0xF := by simp [Instr.check]

theorem check_sknp : (Instr.sknp x).check s = none ↔ (s.reg x).toNat ≤ 0xF := by simp [Instr.check]

theorem check_ldF : (Instr.ldF x).check s = none ↔ (s.reg x).toNat ≤ 0xF := by simp [Instr.check]

theorem check_ldB : (Instr.ldB x).check s = none ↔ s.i.toNat + 2 ≤ 0xFFF := by simp [Instr.check]

theorem check_storeRegs : (Instr.storeRegs x).check s = none ↔ s.i.toNat + x.toNat ≤ 0xFFF := by simp [Instr.check]

theorem check_loadRegs : (Instr.loadRegs x).check s = none ↔ s.i.toNat + x.toNat ≤ 0xFFF := by simp [Instr.check]

/-! What each of these instructions does then. -/

theorem exec_ret_completes (h : s.sp.val ≠ 0) :
    exec .ret s = .next ({ s with sp := ⟨s.sp.val - 1, by omega⟩ }.setPc (s.stack[s.sp.val - 1]'(by omega))) := by
  simp [exec, execRet, State.pop, h]

theorem exec_call_completes (h : s.sp.val < 16) :
    exec (.call nnn) s =
      .next ({ s with stack := s.stack.set s.sp.val (s.pc + 2) h, sp := ⟨s.sp.val + 1, by omega⟩ }.setPc (immNnn nnn)) := by
  simp [exec, execCall, State.push, h]

theorem exec_drw_completes (h : n = 0 ∨ s.i.toNat + n.toNat - 1 ≤ 0xFFF) :
    exec (.drw x y n) s =
      .next ((s.setScreen (s.drawRows (s.reg x).toNat (s.reg y).toNat n.toNat).1).setReg vf
        (collisionFlag (s.drawRows (s.reg x).toNat (s.reg y).toNat n.toNat).2)).advance := by
  refine if_neg ?_
  simp [State.effAddr]
  bv_omega

theorem exec_skp_completes (h : (s.reg x).toNat ≤ 0xF) :
    exec (.skp x) s = .next (s.skipIf (keyHeld s.key (s.reg x).toNat)) :=
  if_neg (by simpa using h)

theorem exec_sknp_completes (h : (s.reg x).toNat ≤ 0xF) :
    exec (.sknp x) s = .next (s.skipIf (!keyHeld s.key (s.reg x).toNat)) :=
  if_neg (by simpa using h)

theorem exec_ldF_completes (h : (s.reg x).toNat ≤ 0xF) : exec (.ldF x) s = .next (s.setI (glyphAddr (s.reg x))).advance :=
  if_neg (by simpa using h)

theorem exec_ldB_completes (h : s.i.toNat + 2 ≤ 0xFFF) :
    exec (.ldB x) s = .next (s.storeBytes s.i.toNat (decimalDigits (s.reg x))).advance :=
  if_neg (by simpa [State.effAddr] using h)

theorem exec_storeRegs_completes (h : s.i.toNat + x.toNat ≤ 0xFFF) :
    exec (.storeRegs x) s =
      .next ((s.storeBytes s.i.toNat (s.regsBelow (x.toNat + 1))).setI (s.indexAfterBulk x)).advance :=
  if_neg (by simpa [State.effAddr] using h)

theorem exec_loadRegs_completes (h : s.i.toNat + x.toNat ≤ 0xFFF) :
    exec (.loadRegs x) s = .next ((s.loadRegsBelow s.i.toNat (x.toNat + 1)).setI (s.indexAfterBulk x)).advance :=
  if_neg (by simpa [State.effAddr] using h)

/-! The three ways an attempt at `Fx0A` ends (R204). -/

theorem exec_ldVxK_first (h : s.awaiting = false) : exec (.ldVxK x) s = .next (s.setWait true s.key) := by
  simp [exec, execLdVxK, h]

theorem exec_ldVxK_waits (h : s.awaiting = true) (hk : lowestKey s.freshKeys = none) :
    exec (.ldVxK x) s = .next (s.setWait true s.key) := by
  simp [exec, execLdVxK, h, hk]

theorem exec_ldVxK_delivers {k : Nat} (h : s.awaiting = true) (hk : lowestKey s.freshKeys = some k) :
    exec (.ldVxK x) s = .next ((s.setReg x (BitVec.ofNat 8 k)).setWait false s.key).advance := by
  simp [exec, execLdVxK, h, hk]

/-! ### Errors: the check of an instruction fails -/

/-- R229, R231: an instruction whose check fails is the error entry for the cause of that check, and nothing else. -/
theorem exec_of_check {c : Cause} (h : i.check s = some c) : exec i s = .next (s.raise c (encode i)) := by
  cases i with
  | ret =>
    obtain ⟨hsp, rfl⟩ : s.sp.val = 0 ∧ Cause.stackUnderflow = c := by simpa [Instr.check] using h
    simp [exec, execRet, State.pop, hsp, raised]
  | call nnn =>
    obtain ⟨hsp, rfl⟩ : s.sp.val = 16 ∧ Cause.stackOverflow = c := by simpa [Instr.check] using h
    simp [exec, execCall, State.push, hsp, raised]
  | drw x y n =>
    obtain ⟨⟨hn, hi⟩, rfl⟩ : (0 < n.toNat ∧ 0xFFF < s.i.toNat + n.toNat - 1) ∧ Cause.memBounds = c := by
      simpa [Instr.check] using h
    refine if_pos ?_
    simp [State.effAddr]
    omega
  | skp x | sknp x | ldF x =>
    obtain ⟨hx, rfl⟩ : 0xF < (s.reg x).toNat ∧ Cause.operandRange = c := by simpa [Instr.check] using h
    exact if_pos ((outOfRange_eq_true _).mpr hx)
  | ldB x =>
    obtain ⟨hi, rfl⟩ : 0xFFF < s.i.toNat + 2 ∧ Cause.memBounds = c := by simpa [Instr.check] using h
    exact if_pos ((beyondMemory_eq_true _).mpr hi)
  | storeRegs x | loadRegs x =>
    obtain ⟨hi, rfl⟩ : 0xFFF < s.i.toNat + x.toNat ∧ Cause.memBounds = c := by simpa [Instr.check] using h
    exact if_pos ((beyondMemory_eq_true _).mpr hi)
  | _ => cases h

end Sys2Proof.Machine
end

section
/-! PROOFS. The rules of the single instructions: control transfer, arithmetic, index register and memory, keys and timers. -/

namespace Sys2Proof.Machine

variable {s t : State} {i : Instr} {w : Writes} {x y : Reg} {n : Nibble} {nnn : Addr12}

/-! ### Control transfer (spec/40_control_flow.md) -/

/-- Settles O17: both are a jump, and nnn + V0 is at most 0xFFF + 0xFF, so the sum of 16-bit words does not wrap. -/
theorem sysAndOffsetJumps : Obligations.SysAndOffsetJumps := by
  intro nnn s
  have htarget : (s.v0Target nnn).toNat = nnn.toNat + (s.reg 0x0).toNat := by
    have hn := nnn.isLt
    have hv := (s.reg 0x0#4).isLt
    simp [State.v0Target, wide]
    omega
  rw [← htarget, ← immNnn_toNat nnn]
  exact ⟨exec_jumps rfl, exec_jumps rfl⟩

/-- Settles O20: a push writes the slot at SP and SP. -/
theorem callPushesReturnAddress : Obligations.CallPushesReturnAddress := by
  intro nnn s h
  refine ⟨_, exec_call_completes h, ?_, rfl, immNnn_toNat nnn, ?_⟩
  · simp
  · rw [Frame.setPc_iff]
    refine { Frame.refl s _ with sp := nofun, slots := fun k hk hslot => ?_ }
    exact Vector.getElem_set_ne h hk (beq_eq_false_iff_ne.mp hslot).symm

/-- Settles O21: a pop writes SP and no slot. -/
theorem returnPopsAddress : Obligations.ReturnPopsAddress := by
  intro s h
  refine ⟨_, exec_ret_completes h, rfl, rfl, ?_⟩
  rw [Frame.setPc_iff]
  exact { Frame.refl s _ with sp := nofun }

/-- Settles O22: the check of each is that its end of the stack is reached. -/
theorem stackErrorsHalt : Obligations.StackErrorsHalt := by
  intro nnn s
  refine ⟨fun h => ?_, fun h => ?_⟩
  · rw [exec_of_check (i := .call nnn) (c := .stackOverflow) (by simp [Instr.check, h]), State.raise_fatal s (by decide)]
    rfl
  · rw [exec_of_check (i := .ret) (c := .stackUnderflow) (by simp [Instr.check, h]), State.raise_fatal s (by decide)]
    rfl

/-- Settles O23: the return pops the slot the call has filled. -/
theorem callThenReturn : Obligations.CallThenReturn := by
  intro nnn s t u hcall hsp husp hstack
  obtain ⟨t', ht', hslot, htsp, -, -⟩ := callPushesReturnAddress nnn s hsp
  obtain rfl := eq_of_next hcall ht'
  have hu : u.sp.val = s.sp.val + 1 := by rw [husp, htsp]
  obtain ⟨r, hr, hpc, hrsp, -⟩ := returnPopsAddress u (by omega)
  refine ⟨r, hr, ?_, Fin.ext (by omega)⟩
  rw [hpc, hstack _ (by omega) (by omega), ← hslot]
  simp [hu]

/-! ### Arithmetic (spec/41_load_alu.md) -/

/-- Settles O26: the flag is the carry of the operands before the instruction. -/
theorem addSetsCarry : Obligations.AddSetsCarry := by
  intro x y s
  obtain ⟨t, ht, hx, hvf, hpc, hframe⟩ := exec_writesFlagThenReg (i := .addReg x y) (s := s) rfl
  refine ⟨t, ht, ?_, fun hne => ?_, hpc, hframe⟩
  · rw [hx, BitVec.toNat_add]
  · rw [hvf hne, carryFlag, flagByte]
    simp

/-- R140: no borrow in a - b, under both settings of `CFG_BORROW_STRICT`. -/
theorem noBorrowFlag_eq (cfg : Config) (a b : Byte) :
    noBorrowFlag cfg a b = if a.toNat > b.toNat ∨ (cfg.borrowStrict = false ∧ a = b) then 1 else 0 := by
  have hle : b.toNat ≤ a.toNat ↔ b.toNat < a.toNat ∨ a = b := by
    rw [Nat.le_iff_lt_or_eq, BitVec.toNat_inj, eq_comm (a := b)]
  rw [noBorrowFlag, flagByte]
  cases cfg.borrowStrict
  · simp [hle]
  · simp

/-- R140: the difference of two bytes, modulo 256. -/
theorem toNat_sub_byte (a b : Byte) : (a - b).toNat = (256 + a.toNat - b.toNat) % 256 := by
  rw [BitVec.toNat_sub]
  omega

/-- Settles O27: the two are the same difference and the same flag, with the operands exchanged. -/
theorem subtractSetsNoBorrow : Obligations.SubtractSetsNoBorrow := by
  intro x y s
  refine ⟨?_, ?_⟩
  · obtain ⟨t, ht, hx, hvf, hpc, hframe⟩ := exec_writesFlagThenReg (i := .subReg x y) (s := s) rfl
    exact ⟨t, ht, by rw [hx, toNat_sub_byte], fun hne => by rw [hvf hne, noBorrowFlag_eq], hpc, hframe⟩
  · obtain ⟨t, ht, hx, hvf, hpc, hframe⟩ := exec_writesFlagThenReg (i := .subnReg x y) (s := s) rfl
    refine ⟨t, ht, by rw [hx, toNat_sub_byte], fun hne => ?_, hpc, hframe⟩
    rw [hvf hne, noBorrowFlag_eq]
    simp only [eq_comm (a := s.reg y)]

/-- R21: a flag as a number. -/
theorem flagByte_toNat (b : Bool) : (flagByte b).toNat = b.toNat := by cases b <;> rfl

/-- R149: bit 0 is the remainder by 2. -/
theorem shiftRightFlag_toNat (b : Byte) : (shiftRightFlag b).toNat = b.toNat % 2 := by
  rw [shiftRightFlag, flagByte_toNat, BitVec.getLsbD, Nat.toNat_testBit, pow_zero, Nat.div_one]

/-- R151: bit 7 is the quotient by 128. -/
theorem shiftLeftFlag_toNat (b : Byte) : (shiftLeftFlag b).toNat = b.toNat / 128 := by
  have hb := b.isLt
  rw [shiftLeftFlag, flagByte_toNat, BitVec.getLsbD, Nat.toNat_testBit]
  omega

/-- Settles O28: flag and result are those of the one source. -/
theorem shiftsPutOutBit : Obligations.ShiftsPutOutBit := by
  intro x y s v hv
  have hsource : v = (s.shiftSource x y).toNat := by
    rw [hv, State.shiftSource, apply_ite s.reg]
  refine ⟨?_, ?_⟩
  · obtain ⟨t, ht, hx, hvf, hpc, hframe⟩ := exec_writesFlagThenReg (i := .shr x y) (s := s) rfl
    refine ⟨t, ht, ?_, fun hne => ?_, hpc, hframe⟩
    · rw [hx, hsource, BitVec.toNat_ushiftRight, Nat.shiftRight_one]
    · rw [hvf hne, hsource, shiftRightFlag_toNat]
  · obtain ⟨t, ht, hx, hvf, hpc, hframe⟩ := exec_writesFlagThenReg (i := .shl x y) (s := s) rfl
    refine ⟨t, ht, ?_, fun hne => ?_, hpc, hframe⟩
    · rw [hx, hsource, BitVec.toNat_shiftLeft, Nat.shiftLeft_eq, pow_one]
    · rw [hvf hne, hsource, shiftLeftFlag_toNat]

/-- Settles O29: whatever the byte drawn is, the mask clears its bits. -/
theorem randomByteIsMasked : Obligations.RandomByteIsMasked := by
  intro x kk s
  have hreg : (s.countDraw.setReg x (s.randomByte &&& kk)).advance.reg x = Config.rnd s.draws &&& kk := by
    simp [State.randomByte]
  refine ⟨_, rfl, hreg, fun k hk => ?_, rfl, by simp, ?_⟩
  · rw [hreg, BitVec.getLsbD_and, hk, Bool.and_false]
  · rw [Frame.advance_iff]
    exact ((Frame.refl s _).countDraw rfl).setReg (by simp [only]) _

/-! ### Index register and memory (spec/42_index_memory.md) -/

/-- Settles O32: the flag is written last and stands with x = 0xF too. -/
theorem addIndexFlagsOverflow : Obligations.AddIndexFlagsOverflow := by
  intro x s
  refine ⟨_, rfl, ?_, ?_, by simp, ?_⟩
  · have hv := (s.reg x).isLt
    simp [wide]
  · simp [indexFlag, flagByte]
  · rw [Frame.advance_iff]
    exact ((Frame.refl s _).setI rfl _).setReg (by simp [only]) _

/-- Settles O33: a glyph has five bytes, and 5 * 0xF does not wrap. -/
theorem glyphAddress : Obligations.GlyphAddress := by
  intro x s
  refine ⟨fun h => ⟨_, exec_ldF_completes h, ?_, by simp, ?_⟩, fun h => ?_⟩
  · simp [glyphAddr, wide]
    omega
  · rw [Frame.advance_iff]
    exact (Frame.refl s _).setI rfl _
  · exact exec_of_check (i := .ldF x) (if_pos h)

/-- Settles O34: the digits are those of weight 100, 10 and 1. -/
theorem decimalDigitsStored : Obligations.DecimalDigitsStored := by
  intro x s h
  have hexec := exec_ldB_completes (x := x) h
  have digit (k : Nat) (hk : k < 3) := exec_ldB_readByte hexec h hk
  have h0 := digit 0 (by omega)
  have h1 := digit 1 (by omega)
  have h2 := digit 2 (by omega)
  have hv := (s.reg x).isLt
  refine ⟨_, hexec, ?_, ?_, ?_, by simp, ?_⟩
  · simp only [Nat.add_zero] at h0
    omega
  · omega
  · omega
  · rw [Frame.advance_iff]
    exact (Frame.refl s _).storeBytes fun c hc => span_eq_false.mp hc

/-- R175, R176: I after a bulk move. -/
theorem indexAfterBulk_toNat (x : Reg) (h : s.cfg.legacyIInc = true) :
    (s.indexAfterBulk x).toNat = (s.i.toNat + x.toNat + 1) % 2 ^ 16 := by
  have hx := x.isLt
  simp [State.indexAfterBulk, h]

/-- R175, R176: a bulk move leaves I under `CFG_LEGACY_I_INC` = 0. -/
theorem Frame.setI_indexAfterBulk {w : Writes} (hw : w.index = s.cfg.legacyIInc) (h : Frame w s t) (x : Reg) :
    Frame w s (t.setI (s.indexAfterBulk x)) :=
  { h with index := fun hindex => by simp [State.indexAfterBulk, ← hw, hindex] }

/-- Settles O35: what is stored is V0 to Vx in order, on the x + 1 addresses of the write set. -/
theorem registersStored : Obligations.RegistersStored := by
  intro x s h
  have hexec := exec_storeRegs_completes h
  refine ⟨_, hexec, fun y hy => ?_, indexAfterBulk_toNat x, by simp, ?_⟩
  · rw [exec_storeRegs_readByte hexec h hy, BitVec.ofNat_toNat, BitVec.setWidth_eq]
  · rw [Frame.advance_iff]
    refine Frame.setI_indexAfterBulk rfl ((Frame.refl s _).storeBytes fun c hc => ?_) x
    rw [State.regsBelow_length]
    exact span_eq_false.mp hc

/-- Settles O36: what is loaded are the registers up to x, which are the write set. -/
theorem registersLoaded : Obligations.RegistersLoaded := by
  intro x s h
  have hx := x.isLt
  refine ⟨_, exec_loadRegs_completes h, fun y hy => ?_, indexAfterBulk_toNat x, by simp, ?_⟩
  · rw [State.advance_reg, State.setI_reg, State.loadRegsBelow_reg s _ (by omega), if_pos (by omega)]
  · rw [Frame.advance_iff]
    refine Frame.setI_indexAfterBulk rfl ((Frame.refl s _).loadRegsBelow (by omega) fun y hy => ?_) x
    simpa using hy

/-- Settles O38: the load reads the bytes where the store has put them. -/
theorem storeThenLoadRestores : Obligations.StoreThenLoadRestores := by
  intro x s t u r hbound hstore hmem hcfg hi hload y hy
  obtain ⟨t', ht', hbytes, -, -, -⟩ := registersStored x s hbound
  obtain ⟨r', hr', hregs, -, -, -⟩ := registersLoaded x u (by rwa [hi])
  obtain rfl := eq_of_next hstore ht'
  obtain rfl := eq_of_next hload hr'
  rw [hregs y hy, ← hbytes y hy, hi, State.readByte, State.readByte, hmem, hcfg]

/-- R226, R229: an access beyond memory records `MEM_BOUNDS` and halts; nothing else happens. -/
theorem exec_memBounds (h : i.check s = some .memBounds) :
    exec i s = .next { s with status := 5, errSeen := true, errPc := s.pc, errInsn := encode i, halted := true } := by
  rw [exec_of_check h, State.raise_fatal s (by decide)]
  rfl

/-- Settles O37: for each of the four the premise is that the check fails with `MEM_BOUNDS`; with n = 0 it is false. -/
theorem outOfBoundsAccessRaises : Obligations.OutOfBoundsAccessRaises := by
  intro x y n s
  simp only [List.forall_mem_cons]
  refine ⟨fun h => exec_memBounds (if_pos h), fun h => exec_memBounds (if_pos h), fun h => exec_memBounds (if_pos h),
    fun h => exec_memBounds ?_, List.forall_mem_nil _⟩
  by_cases hn : n = 0
  · simp [hn] at h
  · rw [if_neg hn] at h
    exact if_pos ⟨by bv_omega, h⟩

/-! ### Keys and timers (spec/44_keys_timers.md) -/

/-- Settles O43: a skip on the key named by Vx, or the check fails. -/
theorem skipIfKeyHeld : Obligations.SkipIfKeyHeld := by
  intro x s
  exact ⟨fun h => exec_skips (exec_skp_completes h) Iff.rfl, fun h => exec_of_check (i := .skp x) (if_pos h)⟩

/-- Settles O44: as O43, with the test reversed. -/
theorem skipIfKeyUp : Obligations.SkipIfKeyUp := by
  intro x s
  exact ⟨fun h => exec_skips (exec_sknp_completes h) (by simp [keyHeld]), fun h => exec_of_check (i := .sknp x) (if_pos h)⟩

/-- Settles O47: the one write of each is of its timer. -/
theorem timersWritten : Obligations.TimersWritten := by
  intro x s
  refine ⟨⟨_, rfl, rfl, by simp, ?_⟩, ⟨_, rfl, rfl, by simp, ?_⟩⟩
  · rw [Frame.advance_iff]
    exact (Frame.refl s _).setDt rfl _
  · rw [Frame.advance_iff]
    exact (Frame.refl s _).setSt rfl _

/-- R204: a key is fresh when it is held now and was not at the previous attempt. -/
theorem keyHeld_freshKeys {k : Nat} (hk : k < 16) :
    keyHeld s.freshKeys k = true ↔ s.key.getLsbD k = true ∧ s.keyPrev.getLsbD k = false := by
  simp [keyHeld, State.freshKeys, hk]

theorem keyHeld_freshKeys_of_stale {k : Nat} (hk : k < 16) (h : s.key.getLsbD k = true → s.keyPrev.getLsbD k = true) :
    keyHeld s.freshKeys k = false := by
  refine Bool.eq_false_iff.mpr fun hfresh => ?_
  obtain ⟨hkey, hprev⟩ := (keyHeld_freshKeys hk).mp hfresh
  simp [h hkey] at hprev

/-- Settles O45: the premises of the second and third case say that the search for the lowest fresh key finds none, or k. -/
theorem keyWaitAttempts : Obligations.KeyWaitAttempts := by
  intro x s
  refine ⟨fun h => ?_, fun h hstale => ?_, fun k hk h hkey hprev hlow => ?_⟩
  · exact ⟨_, exec_ldVxK_first h, rfl, rfl, rfl, (Frame.refl s _).setWait rfl _ _⟩
  · have hnone : lowestKey s.freshKeys = none := by
      refine lowestKey_none.mpr (BitVec.eq_of_getLsbD_eq fun k hk => ?_)
      rw [BitVec.ofNat_eq_ofNat, BitVec.getLsbD_zero]
      exact keyHeld_freshKeys_of_stale hk (hstale k hk)
    exact ⟨_, exec_ldVxK_waits h hnone, rfl, rfl, rfl, (Frame.refl s _).setWait rfl _ _⟩
  · have hsome : lowestKey s.freshKeys = some k :=
      lowestKey_some.mpr ⟨hk, (keyHeld_freshKeys hk).mpr ⟨hkey, hprev⟩,
        fun j hj => keyHeld_freshKeys_of_stale (hj.trans hk) (hlow j hj)⟩
    refine ⟨_, exec_ldVxK_delivers h hsome, ?_, rfl, rfl, by simp, ?_⟩
    · simp
      omega
    · rw [Frame.advance_iff]
      exact ((Frame.refl s _).setReg (by simp [only]) _).setWait rfl _ _

end Sys2Proof.Machine
end

section
/-! PROOFS. The sprite draw of spec/43_display.md, R192 and R193: at most 32 rows of a sprite fall on different rows of the
screen, so a pixel is under one bit of the sprite at most. -/

namespace Sys2Proof.Machine

variable {s t : State} {vx vy n : Nat} {r : Fin 32} {c : Fin 64}

/-! ### The rows of a sprite -/

/-- One row more of the sprite: its bits on the row (vy + n) mod 32 of the screen. -/
theorem State.spriteOn_succ :
    s.SpriteOn vx vy (n + 1) r c ↔
      s.SpriteOn vx vy n r c ∨
        (r = Fin.ofNat 32 (vy + n) ∧ (spriteBits vx (s.readByte (s.effAddr n)) 8).getLsbD c = true) := by
  have hrow : r = Fin.ofNat 32 (vy + n) ↔ (vy + n) % 32 = r.val := by
    rw [Fin.ext_iff, eq_comm]
    rfl
  rw [hrow, spriteBits_getLsbD]
  constructor
  · rintro ⟨j, hj, k, hk, hr, hc⟩
    rcases Nat.lt_succ_iff_lt_or_eq.mp hj with hj | rfl
    · exact .inl ⟨j, hj, k, hk, hr, hc⟩
    · exact .inr ⟨hr, k, hk, hc⟩
  · rintro (⟨j, hj, h⟩ | ⟨hr, k, hk, hc⟩)
    · exact ⟨j, by omega, h⟩
    · exact ⟨n, by omega, k, hk, hr, hc⟩

/-- No two of 32 rows fall on the same row of the screen. -/
theorem State.not_spriteOn_nextRow (hn : n < 32) : ¬s.SpriteOn vx vy n (Fin.ofNat 32 (vy + n)) c := by
  rintro ⟨j, hj, k, -, hr, -⟩
  have : (vy + j) % 32 = (vy + n) % 32 := hr
  omega

theorem State.drawRows_succ_pixel :
    pixel (s.drawRows vx vy (n + 1)).1 r c =
      (pixel (s.drawRows vx vy n).1 r c ^^
        (decide (r = Fin.ofNat 32 (vy + n)) && (spriteBits vx (s.readByte (s.effAddr n)) 8).getLsbD c)) :=
  pixel_xorRow ..

/-- What drawing does to a pixel (R192): it flips under a 1 bit of the sprite and else stays. -/
theorem State.drawRows_pixel (hn : n ≤ 32) :
    (s.SpriteOn vx vy n r c → pixel (s.drawRows vx vy n).1 r c = !pixel s.fb r c) ∧
      (¬s.SpriteOn vx vy n r c → pixel (s.drawRows vx vy n).1 r c = pixel s.fb r c) := by
  induction n with
  | zero => exact ⟨fun ⟨_, hj, _⟩ => absurd hj (Nat.not_lt_zero _), fun _ => rfl⟩
  | succ n ih =>
    obtain ⟨ihon, ihoff⟩ := ih (by omega)
    rw [State.drawRows_succ_pixel, State.spriteOn_succ]
    by_cases hbit : r = Fin.ofNat 32 (vy + n) ∧ (spriteBits vx (s.readByte (s.effAddr n)) 8).getLsbD c = true
    · have hoff : ¬s.SpriteOn vx vy n r c := hbit.1 ▸ State.not_spriteOn_nextRow hn
      have hflip : (decide (r = Fin.ofNat 32 (vy + n)) && (spriteBits vx (s.readByte (s.effAddr n)) 8).getLsbD c) = true := by
        rwa [Bool.and_eq_true, decide_eq_true_eq]
      rw [hflip, Bool.xor_true, ihoff hoff]
      exact ⟨fun _ => rfl, fun hon => absurd (.inr hbit) hon⟩
    · have hflip : (decide (r = Fin.ofNat 32 (vy + n)) && (spriteBits vx (s.readByte (s.effAddr n)) 8).getLsbD c) = false := by
        simpa using hbit
      rw [hflip, Bool.xor_false, or_iff_left hbit]
      exact ⟨ihon, ihoff⟩

/-- When drawing reports a collision (R192): a pixel under a 1 bit of the sprite was on before. -/
theorem State.drawRows_hit (hn : n ≤ 32) :
    (s.drawRows vx vy n).2 = true ↔ ∃ r c, s.SpriteOn vx vy n r c ∧ pixel s.fb r c = true := by
  induction n with
  | zero =>
    refine ⟨nofun, ?_⟩
    rintro ⟨_, _, ⟨_, hj, _⟩, _⟩
    exact absurd hj (Nat.not_lt_zero _)
  | succ n ih =>
    have hnew (c : Fin 64) : pixel (s.drawRows vx vy n).1 (Fin.ofNat 32 (vy + n)) c = pixel s.fb (Fin.ofNat 32 (vy + n)) c :=
      (State.drawRows_pixel (by omega)).2 (State.not_spriteOn_nextRow hn)
    have hsucc : (s.drawRows vx vy (n + 1)).2 = ((s.drawRows vx vy n).2 ||
        (xorRow (s.drawRows vx vy n).1 (Fin.ofNat 32 (vy + n)) (spriteBits vx (s.readByte (s.effAddr n)) 8)).2) := rfl
    rw [hsucc, Bool.or_eq_true, ih (by omega), xorRow_hit]
    simp only [State.spriteOn_succ, hnew]
    constructor
    · rintro (⟨r, c, hon, hp⟩ | ⟨c, hp, hb⟩)
      · exact ⟨r, c, .inl hon, hp⟩
      · exact ⟨_, c, .inr ⟨rfl, hb⟩, hp⟩
    · rintro ⟨r, c, hon | ⟨rfl, hb⟩, hp⟩
      · exact .inl ⟨r, c, hon, hp⟩
      · exact .inr ⟨c, hp, hb⟩

/-- Settles O41: a sprite has at most 15 rows. -/
theorem drawXorsPixels : Obligations.DrawXorsPixels := by
  intro x y n s h
  have hn : n.toNat ≤ 32 := by have := n.isLt; omega
  refine ⟨_, exec_drw_completes h, fun r c => State.drawRows_pixel hn, ?_, rfl, by simp, ?_⟩
  · simp only [State.advance_reg, State.setReg_reg, if_true]
    rw [← State.drawRows_hit hn, collisionFlag, flagByte]
    cases (s.drawRows (s.reg x).toNat (s.reg y).toNat n.toNat).2
    · exact .inr ⟨rfl, nofun⟩
    · exact .inl ⟨rfl, rfl⟩
  · rw [Frame.advance_iff]
    exact ((Frame.refl s _).setScreen rfl _).setReg (by simp [only]) _

/-! ### The same sprite drawn twice -/

/-- A framebuffer is its pixels. -/
theorem framebuffer_ext {f g : Framebuffer} (h : ∀ r c, pixel f r c = pixel g r c) : f = g :=
  Vector.ext fun r hr => BitVec.eq_of_getLsbD_eq fun c hc => h ⟨r, hr⟩ ⟨c, hc⟩

/-- A sprite depends on I and on memory alone. -/
theorem State.spriteOn_congr (hi : t.i = s.i) (hread : ∀ a, t.readByte a = s.readByte a) :
    t.SpriteOn vx vy n r c ↔ s.SpriteOn vx vy n r c := by
  simp only [State.SpriteOn, hi, hread]

/-- Settles O42: the first draw leaves the sprite and its place as they are, so the second flips the same pixels back, and it
collides where the first draw has put a pixel on. -/
theorem drawTwiceRestores : Obligations.DrawTwiceRestores := by
  intro x y n s t u hx hy h hfirst hsecond
  obtain ⟨t', ht', hpix, -, -, -, hframe⟩ := drawXorsPixels x y n s h
  obtain rfl := eq_of_next hfirst ht'
  have hi : t.i = s.i := hframe.index rfl
  obtain ⟨u', hu', hpix', hvf, -, -, -⟩ := drawXorsPixels x y n t (by rwa [hi])
  obtain rfl := eq_of_next hsecond hu'
  have hregx : t.reg x = s.reg x := hframe.regs x (by simpa [only] using hx)
  have hregy : t.reg y = s.reg y := hframe.regs y (by simpa [only] using hy)
  simp only [hregx, hregy, State.spriteOn_congr hi fun a => hframe.mem a rfl] at hpix' hvf
  refine ⟨framebuffer_ext fun r c => ?_, ?_⟩
  · by_cases hon : s.SpriteOn (s.reg x).toNat (s.reg y).toNat n.toNat r c
    · rw [(hpix' r c).1 hon, (hpix r c).1 hon, Bool.not_not]
    · rw [(hpix' r c).2 hon, (hpix r c).2 hon]
  · have hflipped (r c) : (s.SpriteOn (s.reg x).toNat (s.reg y).toNat n.toNat r c ∧ pixel t.fb r c = true) ↔
        (s.SpriteOn (s.reg x).toNat (s.reg y).toNat n.toNat r c ∧ pixel s.fb r c = false) :=
      and_congr_right fun hon => by simp [(hpix r c).1 hon]
    simp only [hflipped] at hvf
    obtain ⟨hone, hhit⟩ | ⟨hzero, hmiss⟩ := hvf
    · exact iff_of_true hone hhit
    · exact iff_of_false (by simp [hzero]) hmiss

end Sys2Proof.Machine
end

section
/-! PROOFS. What holds of every instruction: it keeps to its write set (spec/10_state.md R41), VF is written by the flag writers
alone (R21), memory stays in canonical form, and the sound timer and the status registers are never read (R27, R30, R34). -/

namespace Sys2Proof.Machine

variable {s t u : State} {i : Instr}

/-! ### Write sets -/

/-- R204: an attempt at `Fx0A` waits on, or delivers a key to Vx and goes on. -/
theorem exec_ldVxK_cases (x : Reg) (s : State) :
    exec (.ldVxK x) s = .next (s.setWait true s.key) ∨
      ∃ b, exec (.ldVxK x) s = .next ((s.setReg x b).setWait false s.key).advance := by
  cases hawait : s.awaiting with
  | false => exact .inl (exec_ldVxK_first hawait)
  | true =>
    cases hkey : lowestKey s.freshKeys with
    | none => exact .inl (exec_ldVxK_waits hawait hkey)
    | some k => exact .inr ⟨_, exec_ldVxK_delivers hawait hkey⟩

/-- An instruction whose check passes completes, and writes no error register. -/
theorem exec_completes (h : i.check s = none) :
    ∃ t, exec i s = .next t ∧ Frame { i.writes s with errors := false } s t := by
  cases i with
  | cls =>
    obtain ⟨t, ht, -, -, -, hframe⟩ := clearScreen.2 s
    exact ⟨t, ht, hframe⟩
  | ret =>
    obtain ⟨t, ht, -, -, hframe⟩ := returnPopsAddress s (check_ret.mp h)
    exact ⟨t, ht, hframe⟩
  | call nnn =>
    obtain ⟨t, ht, -, -, -, hframe⟩ := callPushesReturnAddress nnn s (check_call.mp h)
    exact ⟨t, ht, hframe⟩
  | sys | jp | jpV0 =>
    exact ⟨_, rfl, (Frame.setPc_iff s _ s _).mpr (Frame.refl s _)⟩
  | seImm | sneImm | seReg | sneReg =>
    exact ⟨_, rfl, (Frame.skipIf_iff s _ s _).mpr (Frame.refl s _)⟩
  | skp x =>
    obtain ⟨t, ht, -, hframe⟩ := (skipIfKeyHeld x s).1 (check_skp.mp h)
    exact ⟨t, ht, hframe⟩
  | sknp x =>
    obtain ⟨t, ht, -, hframe⟩ := (skipIfKeyUp x s).1 (check_sknp.mp h)
    exact ⟨t, ht, hframe⟩
  | ldImm | addImm | ldReg | orReg | andReg | xorReg | ldVxDt =>
    exact ⟨_, rfl, (Frame.advance_iff s _ _).mpr ((Frame.refl s _).setReg (by simp [Instr.writes, only]) _)⟩
  | addReg | subReg | shr | subnReg | shl =>
    exact ⟨_, rfl, (Frame.advance_iff s _ _).mpr
      ((Frame.refl s _).setFlagThenReg (by simp [Instr.writes, orVf]) (by simp [Instr.writes, orVf]) _ _)⟩
  | rnd x kk =>
    obtain ⟨t, ht, -, -, -, -, hframe⟩ := randomByteIsMasked x kk s
    exact ⟨t, ht, hframe⟩
  | drw x y n =>
    obtain ⟨t, ht, -, -, -, -, hframe⟩ := drawXorsPixels x y n s (check_drw.mp h)
    exact ⟨t, ht, hframe⟩
  | ldI nnn =>
    obtain ⟨-, t, ht, -, -, hframe⟩ := loadIndex nnn s
    exact ⟨t, ht, hframe⟩
  | addI x =>
    obtain ⟨t, ht, -, -, -, hframe⟩ := addIndexFlagsOverflow x s
    exact ⟨t, ht, hframe⟩
  | ldF x =>
    obtain ⟨t, ht, -, -, hframe⟩ := (glyphAddress x s).1 (check_ldF.mp h)
    exact ⟨t, ht, hframe⟩
  | ldB x =>
    obtain ⟨t, ht, -, -, -, -, hframe⟩ := decimalDigitsStored x s (check_ldB.mp h)
    exact ⟨t, ht, hframe⟩
  | storeRegs x =>
    obtain ⟨t, ht, -, -, -, hframe⟩ := registersStored x s (check_storeRegs.mp h)
    exact ⟨t, ht, hframe⟩
  | loadRegs x =>
    obtain ⟨t, ht, -, -, -, hframe⟩ := registersLoaded x s (check_loadRegs.mp h)
    exact ⟨t, ht, hframe⟩
  | ldDtVx x =>
    obtain ⟨t, ht, -, -, hframe⟩ := (timersWritten x s).1
    exact ⟨t, ht, hframe⟩
  | ldStVx x =>
    obtain ⟨t, ht, -, -, hframe⟩ := (timersWritten x s).2
    exact ⟨t, ht, hframe⟩
  | ldVxK x =>
    obtain hwaits | ⟨b, hdelivers⟩ := exec_ldVxK_cases x s
    · exact ⟨_, hwaits, (Frame.refl s _).setWait rfl _ _⟩
    · exact ⟨_, hdelivers, (Frame.advance_iff s _ _).mpr
        (((Frame.refl s _).setReg (by simp [Instr.writes, only]) _).setWait rfl _ _)⟩

/-- Only the instructions with the error registers in their write set have a check (R220). -/
theorem writes_errors_of_check {c : Cause} (h : i.check s = some c) : (i.writes s).errors = true := by
  cases i with
  | ret | call | drw | skp | sknp | ldF | ldB | storeRegs | loadRegs => rfl
  | _ => cases h

/-- Settles O57: the error entry writes PC and the error registers, and a completion keeps its own frame. -/
theorem instructionsKeepToTheirWrites : Obligations.InstructionsKeepToTheirWrites := by
  intro i s t hexec
  cases hcheck : i.check s with
  | some c =>
    obtain rfl := eq_of_next hexec (exec_of_check hcheck)
    exact (Frame.refl s _).raise (writes_errors_of_check hcheck) c _
  | none =>
    obtain ⟨t', ht', hframe⟩ := exec_completes hcheck
    obtain rfl := eq_of_next hexec ht'
    exact hframe.of_errors_false

/-! ### VF -/

/-- R21: VF is in the write set of the flag writers and where it is the destination, nowhere else. -/
theorem writes_regs_vf (hflag : i.writesFlag = false) (hdest : i.destIsVf = false) : (i.writes s).regs vf = false := by
  cases i with
  | ldImm x | addImm x | ldReg x | orReg x | andReg x | xorReg x | rnd x | ldVxDt x | ldVxK x =>
    exact beq_eq_false_iff_ne.mpr (beq_eq_false_iff_ne.mp hdest).symm
  | loadRegs x =>
    simp [Instr.writes, Instr.destIsVf, vf] at hdest ⊢
    bv_omega
  | addReg | subReg | shr | subnReg | shl | drw | addI => cases hflag
  | _ => rfl

/-- R21, R22: the five arithmetic flag writers leave a flag in VF when their destination is another register. -/
theorem flag_of_writesFlagThenReg {x : Reg} {b : Bool} {res : Byte} (hx : x ≠ vf) (hexec : exec i s = .next t)
    (hmeans : exec i s = .next (s.setFlagThenReg x (flagByte b) res).advance) : t.reg vf = 0 ∨ t.reg vf = 1 := by
  obtain rfl := eq_of_next hexec hmeans
  rw [State.advance_reg, State.setFlagThenReg_vf s hx]
  exact flagByte_cases b

/-- Settles O30: each of the seven leaves a flag in VF, and of the others VF is in no write set. -/
theorem onlyFlagWritersTouchVf : Obligations.OnlyFlagWritersTouchVf := by
  intro i s t hexec hdest
  refine ⟨fun hflag hcheck => ?_, fun hflag =>
    (instructionsKeepToTheirWrites i s t hexec).regs vf (writes_regs_vf hflag hdest)⟩
  cases i with
  | addReg x | subReg x | shr x | subnReg x | shl x =>
    exact flag_of_writesFlagThenReg (by simpa [Instr.destIsVf] using hdest) hexec rfl
  | addI x =>
    obtain ⟨t', ht', -, hvf, -, -⟩ := addIndexFlagsOverflow x s
    obtain rfl := eq_of_next hexec ht'
    rw [hvf]
    split
    · exact .inr rfl
    · exact .inl rfl
  | drw x y n =>
    obtain ⟨t', ht', -, hvf, -, -, -⟩ := drawXorsPixels x y n s (check_drw.mp hcheck)
    obtain rfl := eq_of_next hexec ht'
    exact (hvf.imp And.left And.left).symm
  | _ => cases hflag

/-! ### Memory -/

/-- R71: `Fx33` and `Fx55` alone write memory. -/
theorem exec_mem (hldB : ∀ x, i ≠ .ldB x) (hstore : ∀ x, i ≠ .storeRegs x) (hexec : exec i s = .next t) :
    t.mem = s.mem := by
  cases hcheck : i.check s with
  | some c =>
    obtain rfl := eq_of_next hexec (exec_of_check hcheck)
    rfl
  | none =>
    cases i with
    | ldB x => exact absurd rfl (hldB x)
    | storeRegs x => exact absurd rfl (hstore x)
    | ret =>
      obtain rfl := eq_of_next hexec (exec_ret_completes (check_ret.mp hcheck))
      rfl
    | call nnn =>
      obtain rfl := eq_of_next hexec (exec_call_completes (check_call.mp hcheck))
      rfl
    | seImm | sneImm | seReg | sneReg =>
      obtain rfl := eq_of_next hexec rfl
      exact State.skipIf_mem s _
    | skp x =>
      obtain rfl := eq_of_next hexec (exec_skp_completes (check_skp.mp hcheck))
      exact State.skipIf_mem s _
    | sknp x =>
      obtain rfl := eq_of_next hexec (exec_sknp_completes (check_sknp.mp hcheck))
      exact State.skipIf_mem s _
    | drw x y n =>
      obtain rfl := eq_of_next hexec (exec_drw_completes (check_drw.mp hcheck))
      rfl
    | ldF x =>
      obtain rfl := eq_of_next hexec (exec_ldF_completes (check_ldF.mp hcheck))
      rfl
    | loadRegs x =>
      obtain rfl := eq_of_next hexec (exec_loadRegs_completes (check_loadRegs.mp hcheck))
      exact State.loadRegsBelow_mem s _ _
    | ldVxK x =>
      obtain hwaits | ⟨b, hdelivers⟩ := exec_ldVxK_cases x s
      · obtain rfl := eq_of_next hexec hwaits
        rfl
      · obtain rfl := eq_of_next hexec hdelivers
        rfl
    | _ =>
      obtain rfl := eq_of_next hexec rfl
      rfl

/-- R71: every instruction keeps the canonical form of memory: the two stores write inside the space. -/
theorem exec_memWf (hm : Memory.wf s.cfg.resetByte s.mem = true) (hexec : exec i s = .next t) :
    Memory.wf t.cfg.resetByte t.mem = true := by
  have hcfg : t.cfg = s.cfg := (instructionsKeepToTheirWrites i s t hexec).cfg
  cases hcheck : i.check s with
  | some c =>
    obtain rfl := eq_of_next hexec (exec_of_check hcheck)
    exact hm
  | none =>
    cases i with
    | ldB x =>
      have hin := check_ldB.mp hcheck
      obtain rfl := eq_of_next hexec (exec_ldB_completes hin)
      exact State.storeBytes_wf s (by rw [decimalDigits_length, memTop]; omega) hm
    | storeRegs x =>
      have hin := check_storeRegs.mp hcheck
      obtain rfl := eq_of_next hexec (exec_storeRegs_completes hin)
      exact State.storeBytes_wf s (by rw [State.regsBelow_length, memTop]; omega) hm
    | _ => rwa [hcfg, exec_mem (by nofun) (by nofun) hexec]

/-! ### Registers that are never read -/

/-- The state with other values in ST and in the five status registers: those of `u`. -/
def State.withUnread (s u : State) : State :=
  { s with st := u.st, dirty := u.dirty, status := u.status, errSeen := u.errSeen, errPc := u.errPc, errInsn := u.errInsn }

theorem State.withUnread_skipIf (s u : State) (cond : Bool) : (s.withUnread u).skipIf cond = (s.skipIf cond).withUnread u := by
  cases cond <;> rfl

theorem State.withUnread_storeBytes (s u : State) (a : Nat) (bs : List Byte) :
    (s.withUnread u).storeBytes a bs = (s.storeBytes a bs).withUnread u := by
  induction bs generalizing s a with
  | nil => rfl
  | cons b bs ih => exact ih (s.writeByte a b) (a + 1)

theorem State.withUnread_loadRegsBelow (s u : State) (a count : Nat) :
    (s.withUnread u).loadRegsBelow a count = (s.loadRegsBelow a count).withUnread u := by
  induction count with
  | zero => rfl
  | succ k ih =>
    rw [State.loadRegsBelow, ih]
    rfl

theorem State.withUnread_drawRows (s u : State) (vx vy n : Nat) : (s.withUnread u).drawRows vx vy n = s.drawRows vx vy n := by
  induction n with
  | zero => rfl
  | succ k ih =>
    rw [State.drawRows, ih]
    rfl

/-- R27, R30, R34: an instruction that completes does the same with other values in ST and in the status registers: it writes its
own ST or DIRTY if it writes that register at all, and leaves the other values where they are. -/
theorem exec_withUnread (hcheck : i.check s = none) (hexec : exec i s = .next t) (u : State) :
    exec i (s.withUnread u) = .next (t.withUnread { u with
      st := bif (i.writes s).st then t.st else u.st
      dirty := bif (i.writes s).screen then t.dirty else u.dirty }) := by
  cases i with
  | seImm | sneImm | seReg | sneReg =>
    obtain rfl := eq_of_next hexec rfl
    exact congrArg _ (State.withUnread_skipIf s u _)
  | skp x =>
    have hx := check_skp.mp hcheck
    obtain rfl := eq_of_next hexec (exec_skp_completes hx)
    exact (exec_skp_completes (s := s.withUnread u) hx).trans (congrArg _ (State.withUnread_skipIf s u _))
  | sknp x =>
    have hx := check_sknp.mp hcheck
    obtain rfl := eq_of_next hexec (exec_sknp_completes hx)
    exact (exec_sknp_completes (s := s.withUnread u) hx).trans (congrArg _ (State.withUnread_skipIf s u _))
  | ret =>
    have hsp := check_ret.mp hcheck
    obtain rfl := eq_of_next hexec (exec_ret_completes hsp)
    exact exec_ret_completes (s := s.withUnread u) hsp
  | call nnn =>
    have hsp := check_call.mp hcheck
    obtain rfl := eq_of_next hexec (exec_call_completes hsp)
    exact exec_call_completes (s := s.withUnread u) hsp
  | drw x y n =>
    have hin := check_drw.mp hcheck
    obtain rfl := eq_of_next hexec (exec_drw_completes hin)
    refine (exec_drw_completes (s := s.withUnread u) hin).trans ?_
    rw [State.withUnread_drawRows]
    rfl
  | ldF x =>
    have hx := check_ldF.mp hcheck
    obtain rfl := eq_of_next hexec (exec_ldF_completes hx)
    exact exec_ldF_completes (s := s.withUnread u) hx
  | ldB x =>
    have hin := check_ldB.mp hcheck
    obtain rfl := eq_of_next hexec (exec_ldB_completes hin)
    refine (exec_ldB_completes (s := s.withUnread u) hin).trans ?_
    rw [State.withUnread_storeBytes]
    rfl
  | storeRegs x =>
    have hin := check_storeRegs.mp hcheck
    obtain rfl := eq_of_next hexec (exec_storeRegs_completes hin)
    refine (exec_storeRegs_completes (s := s.withUnread u) hin).trans ?_
    rw [State.withUnread_storeBytes]
    rfl
  | loadRegs x =>
    have hin := check_loadRegs.mp hcheck
    obtain rfl := eq_of_next hexec (exec_loadRegs_completes hin)
    refine (exec_loadRegs_completes (s := s.withUnread u) hin).trans ?_
    rw [State.withUnread_loadRegsBelow]
    rfl
  | ldVxK x =>
    cases hawait : s.awaiting with
    | false =>
      obtain rfl := eq_of_next hexec (exec_ldVxK_first hawait)
      exact exec_ldVxK_first (s := s.withUnread u) hawait
    | true =>
      cases hkey : lowestKey s.freshKeys with
      | none =>
        obtain rfl := eq_of_next hexec (exec_ldVxK_waits hawait hkey)
        exact exec_ldVxK_waits (s := s.withUnread u) hawait hkey
      | some k =>
        obtain rfl := eq_of_next hexec (exec_ldVxK_delivers hawait hkey)
        exact exec_ldVxK_delivers (s := s.withUnread u) hawait hkey
  | _ =>
    obtain rfl := eq_of_next hexec rfl
    rfl

/-- The check of an instruction reads none of them either. -/
theorem check_withUnread (i : Instr) (s u : State) : i.check (s.withUnread u) = i.check s := by cases i <;> rfl

/-- R27: `Fx18` alone has ST in its write set. -/
theorem writes_st (h : ∀ x, i ≠ .ldStVx x) : (i.writes s).st = false := by
  cases i with
  | ldStVx x => exact absurd rfl (h x)
  | _ => rfl

/-- Settles O58: `Fx18` reads Vx alone; of the others a completion leaves ST to the end, and so does the error entry. -/
theorem soundTimerIsNeverRead : Obligations.SoundTimerIsNeverRead := by
  intro i s t b hexec
  refine ⟨?_, fun hne => ?_⟩
  · rintro ⟨x, rfl⟩
    exact hexec
  cases hcheck : i.check s with
  | some c =>
    obtain rfl := eq_of_next hexec (exec_of_check hcheck)
    exact exec_of_check (s := s.withUnread { s with st := b }) (by rw [check_withUnread, hcheck])
  | none =>
    obtain ⟨t', ht', hframe⟩ := exec_completes hcheck
    obtain rfl := eq_of_next hexec ht'
    obtain ⟨-, hstatus, hseen, herrPc, herrInsn⟩ := hframe.errors rfl
    have hdirty : (bif (i.writes s).screen then t.dirty else s.dirty) = t.dirty := by
      cases hscreen : (i.writes s).screen with
      | true => rfl
      | false => exact (hframe.screen hscreen).2.symm
    refine (exec_withUnread hcheck hexec { s with st := b }).trans (congrArg _ ?_)
    simp only [State.withUnread, writes_st hne, hdirty, cond_false, ← hstatus, ← hseen, ← herrPc, ← herrInsn]

/-- Settles O59: a completion differs in the registers of the other values alone, and the error entry writes them all but
DIRTY. -/
theorem statusRegistersAreNeverRead : Obligations.StatusRegistersAreNeverRead := by
  intro i s t d e c p w hexec
  cases hcheck : i.check s with
  | some cause =>
    obtain rfl := eq_of_next hexec (exec_of_check hcheck)
    exact ⟨_, exec_of_check (s := s.withUnread { s with dirty := d, status := c, errSeen := e, errPc := p, errInsn := w })
      (by rw [check_withUnread, hcheck]), rfl⟩
  | none =>
    have hst : (bif (i.writes s).st then t.st else s.st) = t.st := by
      cases hwrites : (i.writes s).st with
      | true => rfl
      | false => exact ((instructionsKeepToTheirWrites i s t hexec).st hwrites).symm
    refine ⟨_, exec_withUnread hcheck hexec { s with dirty := d, status := c, errSeen := e, errPc := p, errInsn := w }, ?_⟩
    simp only [State.withUnread, hst]

end Sys2Proof.Machine
end

section
/-! PROOFS. The step (spec/30_encoding.md R90): it raises the first cause that applies (spec/60_exceptions.md R231) or completes
the instruction at PC. -/

namespace Sys2Proof.Machine

variable {s t : State} {i : Instr}

/-! ### The cases of a step -/

/-- R222, R229: the error entry of a running core, its two branches told apart by the code it records. -/
theorem raise_of_running (hrun : s.halted = false) (c : Cause) (w : Word) :
    s.raise c w = { s with
      status := c.code, errSeen := true, errPc := s.pc, errInsn := c.recordedWord w
      halted := !(c.code == 1 && s.cfg.decodeSkip)
      pc := if c.code == 1 && s.cfg.decodeSkip then s.pc + 2 else s.pc } := by
  have hskips : c.skips s.cfg = (c.code == 1 && s.cfg.decodeSkip) := by cases c <;> rfl
  rw [State.raise, hskips, hrun]
  cases c.code == 1 && s.cfg.decodeSkip <;> rfl

/-- Settles O7: the word at PC decodes to i, so i is the next instruction. -/
theorem stepRunsDecodedInstr : Obligations.StepRunsDecodedInstr := by
  intro s i hrun hpc hdecode
  exact step_of_nextInstr s hrun ((State.nextInstr_eq_some s).mpr ⟨(State.canFetch_eq_true s).mpr hpc, hdecode⟩)

/-- Settles O8: this is the first test of the cycle. -/
theorem haltedStepChangesNothing : Obligations.HaltedStepChangesNothing := step_of_halted

/-- Settles O9: the error entry of `FETCH_BOUNDS`, which halts. -/
theorem fetchBeyondMemoryRaises : Obligations.FetchBeyondMemoryRaises := by
  intro s hrun hpc
  rw [step_of_cannotFetch s hrun ((State.canFetch_eq_false s).mpr hpc), State.raise_fatal _ (by decide)]
  rfl

/-- Settles O10: the error entry of `DECODE`, which halts unless the skip policy is set. -/
theorem illegalWordRaisesDecode : Obligations.IllegalWordRaisesDecode := by
  intro s e hrun hpc hdecode
  rw [step_of_illegal s hrun ((State.canFetch_eq_true s).mpr hpc) hdecode, raise_of_running (s := s.beginStep) hrun]
  rfl

/-- R220: no instruction raises `FETCH_BOUNDS`. -/
theorem ne_fetchBounds_of_check {c : Cause} (h : i.check s = some c) : c ≠ .fetchBounds := by
  cases i with
  | ret | call | drw | skp | sknp | ldF | ldB | storeRegs | loadRegs =>
    simp only [Instr.check, Option.ite_none_right_eq_some, Option.some.injEq] at h
    obtain ⟨-, rfl⟩ := h
    decide
  | _ => cases h

/-- The check of an instruction does not depend on DIRTY and STATUS, which a step clears before it. -/
theorem check_beginStep (i : Instr) (s : State) : i.check s.beginStep = i.check s :=
  check_withUnread i s { s with dirty := false, status := 0 }

/-- R231: with an instruction at PC only its own check is left to fail. -/
theorem nextCause_of_nextInstr (h : s.nextInstr = some i) : s.nextCause = i.check s := by
  obtain ⟨hfetch, hdecode⟩ := (State.nextInstr_eq_some s).mp h
  have hpc := (State.canFetch_eq_true s).mp hfetch
  rw [State.nextCause, if_neg (by omega), hdecode]

/-- What a step of a running core can do: raise the first cause that applies, and record the word if one was fetched; or complete
the instruction at PC. -/
theorem step_outcome (hrun : s.halted = false) :
    (∃ c w, s.nextCause = some c ∧ step s = .next (s.beginStep.raise c w) ∧
      c.recordedWord w = if s.pc.toNat ≤ 0xFFE then s.fetchWord else 0x0000) ∨
    (s.nextCause = none ∧ ∃ i t, s.nextInstr = some i ∧ i.check s = none ∧ step s = .next t ∧
      exec i s.beginStep = .next t ∧ Frame { i.writes s.beginStep with errors := false } s.beginStep t) := by
  obtain ⟨hhalt, -⟩ | ⟨-, hfetch, hstep⟩ | ⟨-, hfetch, ⟨e, hdecode⟩, hstep⟩ | ⟨-, hfetch, i, hdecode, hstep⟩ :=
    step_cases s
  · simp [hrun] at hhalt
  · have hpc := (State.canFetch_eq_false s).mp hfetch
    exact .inl ⟨_, _, if_pos hpc, hstep, (if_neg (by omega)).symm⟩
  · have hpc := (State.canFetch_eq_true s).mp hfetch
    have hcause : s.nextCause = some .decode := by
      rw [State.nextCause, if_neg (by omega), hdecode]
    exact .inl ⟨_, _, hcause, hstep, (if_pos hpc).symm⟩
  · have hpc := (State.canFetch_eq_true s).mp hfetch
    have hinstr : s.nextInstr = some i := (State.nextInstr_eq_some s).mpr ⟨hfetch, hdecode⟩
    have hcause := nextCause_of_nextInstr hinstr
    cases hcheck : i.check s with
    | some c =>
      refine .inl ⟨c, encode i, hcause.trans hcheck, ?_, ?_⟩
      · rw [hstep, exec_of_check ((check_beginStep i s).trans hcheck)]
      · rw [if_pos hpc, Cause.recordedWord_of_ne (ne_fetchBounds_of_check hcheck), (encodeInvertsDecode _ i hdecode).1]
    | none =>
      obtain ⟨t, ht, hframe⟩ := exec_completes ((check_beginStep i s).trans hcheck)
      exact .inr ⟨hcause.trans hcheck, i, t, hinstr, hcheck, hstep.trans ht, ht, hframe⟩

/-! ### STATUS, the error registers and DIRTY after a step -/

/-- Settles O14: the error entry records the code of its cause, and a completion leaves the 0 that the step began with. -/
theorem statusNamesCause : Obligations.StatusNamesCause := by
  intro s t hrun hstep
  obtain ⟨c, w, hcause, hraise, -⟩ | ⟨hcause, i, t', -, -, ht', -, hframe⟩ := step_outcome hrun
  · obtain rfl := eq_of_next hstep hraise
    rw [hcause]
    rfl
  · obtain rfl := eq_of_next hstep ht'
    rw [hcause]
    exact (hframe.errors rfl).2.1

/-- Settles O13: a step is the error entry, whose code is not 0, or a completion, which writes no error register. -/
theorem errorsAreRecordedAndPrecise : Obligations.ErrorsAreRecordedAndPrecise := by
  intro s t hrun hstep
  obtain ⟨c, w, -, hraise, hword⟩ | ⟨-, i, t', -, -, ht', -, hframe⟩ := step_outcome hrun
  · obtain rfl := eq_of_next hstep hraise
    refine ⟨fun hzero => absurd hzero c.code_ne_zero, fun _ => ?_⟩
    rw [raise_of_running (s := s.beginStep) hrun, hword]
    rfl
  · obtain rfl := eq_of_next hstep ht'
    obtain ⟨hhalted, hstatus, hseen, herrPc, herrInsn⟩ := hframe.errors rfl
    exact ⟨fun _ => ⟨hhalted.trans hrun, hseen, herrPc, herrInsn⟩, fun hne => absurd hstatus hne⟩

/-- R191, R192: `00E0` and `Dxyn` alone have the screen in their write set. -/
theorem writes_screen : (i.writes s).screen = true ↔ i = .cls ∨ ∃ x y n, i = .drw x y n := by
  cases i with
  | cls => exact iff_of_true rfl (.inl rfl)
  | drw x y n => exact iff_of_true rfl (.inr ⟨x, y, n, rfl⟩)
  | _ => exact iff_of_false nofun nofun

/-- R30: both set DIRTY when they complete. -/
theorem exec_dirty (hscreen : (i.writes s).screen = true) (hcheck : i.check s = none) (hexec : exec i s = .next t) :
    t.dirty = true := by
  obtain rfl | ⟨x, y, n, rfl⟩ := writes_screen.mp hscreen
  · obtain ⟨t', ht', -, hdirty, -, -⟩ := clearScreen.2 s
    rwa [eq_of_next hexec ht']
  · obtain ⟨t', ht', -, -, hdirty, -, -⟩ := drawXorsPixels x y n s (check_drw.mp hcheck)
    rwa [eq_of_next hexec ht']

/-- Settles O12: the step has cleared DIRTY, an error entry leaves it so, and a completion sets it exactly when the screen is in
the write set. -/
theorem dirtyMarksCompletedDraw : Obligations.DirtyMarksCompletedDraw := by
  intro s t hrun hstep
  obtain ⟨c, w, hcause, hraise, -⟩ | ⟨-, i, t', hinstr, hcheck, ht', hexec, hframe⟩ := step_outcome hrun
  · obtain rfl := eq_of_next hstep hraise
    refine iff_of_false nofun ?_
    rintro (hcls | ⟨x, y, n, hdrw, hcheck⟩)
    · cases hcause.symm.trans (nextCause_of_nextInstr hcls)
    · cases (hcause.symm.trans (nextCause_of_nextInstr hdrw)).trans hcheck
  · obtain rfl := eq_of_next hstep ht'
    have hdirty : t.dirty = true ↔ (i.writes s.beginStep).screen = true := by
      cases hscreen : (i.writes s.beginStep).screen with
      | true => exact iff_of_true (exec_dirty hscreen ((check_beginStep i s).trans hcheck) hexec) rfl
      | false => simp [(hframe.screen hscreen).2]
    rw [hdirty, writes_screen, hinstr]
    simp only [Option.some.injEq]
    refine or_congr_right ⟨?_, ?_⟩
    · rintro ⟨x, y, n, rfl⟩
      exact ⟨x, y, n, rfl, hcheck⟩
    · rintro ⟨x, y, n, h, -⟩
      exact ⟨x, y, n, h⟩

/-! ### The invariant -/

/-- A running core with STATUS = 0 meets every clause but the one on memory. -/
theorem inv_of_running (hm : Memory.wf s.cfg.resetByte s.mem = true) (hrun : s.halted = false) (hstatus : s.status = 0) :
    s.Inv where
  mem := hm
  status := by rw [hstatus]; decide
  seen := fun hne => absurd hstatus hne
  halt := fun hhalt => by simp [hrun] at hhalt
  skip := fun _ hne => absurd hstatus hne

/-- R229: what the error entry leaves in a running core: halted at the instruction that raised, or running on after `DECODE`. -/
theorem raise_inv (hm : Memory.wf s.cfg.resetByte s.mem = true) (hrun : s.halted = false) (c : Cause) (w : Word) :
    (s.raise c w).Inv where
  mem := hm
  status := c.code_ne_seven
  seen := fun _ => rfl
  halt := fun hhalt => by
    have hskip : ¬c.skips s.cfg = true := fun hskip => by simp [hskip, hrun] at hhalt
    exact ⟨c.code_ne_zero, (if_neg hskip).symm⟩
  skip := fun hnot _ => by
    have hskip : c.skips s.cfg = true := by simpa [hrun] using hnot
    obtain ⟨rfl, hcfg⟩ := (c.skips_iff s.cfg).mp hskip
    exact ⟨rfl, hcfg⟩

/-- Settles O53: a step leaves a halted core as it is, or is the error entry, or completes with STATUS = 0 and memory in form. -/
theorem stepKeepsInvariant : Obligations.StepKeepsInvariant := by
  intro s t hinv hstep
  cases hrun : s.halted with
  | true =>
    obtain rfl := eq_of_next hstep (step_of_halted s hrun)
    exact hinv
  | false =>
    obtain ⟨c, w, -, hraise, -⟩ | ⟨-, i, t', -, -, ht', hexec, hframe⟩ := step_outcome hrun
    · obtain rfl := eq_of_next hstep hraise
      exact raise_inv (s := s.beginStep) hinv.mem hrun c w
    · obtain rfl := eq_of_next hstep ht'
      obtain ⟨hhalted, hstatus, -, -, -⟩ := hframe.errors rfl
      exact inv_of_running (exec_memWf (s := s.beginStep) hinv.mem hexec) (hhalted.trans hrun) hstatus

/-! ### A word placed under the next fetch (log entry 8) -/

/-- A placed word is under the next fetch of a core that runs. -/
theorem placeWord_halted (s : State) (w : Word) : (s.placeWord w).halted = false := by
  simp [State.placeWord]

theorem placeWord_pc (s : State) (w : Word) : (s.placeWord w).pc = if s.canFetch = true then s.pc else 0x0200 := by
  simp [State.placeWord]

theorem placeWord_canFetch (s : State) (w : Word) : (s.placeWord w).canFetch = true := by
  rw [State.canFetch_eq_true, placeWord_pc]
  split
  next hfetch => exact (State.canFetch_eq_true s).mp hfetch
  next => decide

/-- R63: the two bytes of the word stand at PC and PC + 1. -/
theorem placeWord_readByte (s : State) (w : Word) {k : Nat} (hk : k < (bytesOfWord w).length) :
    (s.placeWord w).readByte ((s.placeWord w).pc.toNat + k) = (bytesOfWord w)[k] := by
  rw [placeWord_pc]
  exact State.storeBytes_readByte_add _ _ hk

theorem placeWord_fetchWord (s : State) (w : Word) : (s.placeWord w).fetchWord = w := by
  have hhigh := placeWord_readByte s w (k := 0) (by simp [bytesOfWord])
  have hlow := placeWord_readByte s w (k := 1) (by simp [bytesOfWord])
  rw [State.fetchWord, ← Nat.add_zero (s.placeWord w).pc.toNat, hhigh, Nat.add_zero, hlow]
  exact wordOfBytes_high_low w

/-- The host's view of the decoder is the decoder on words. -/
theorem decodeTableWord_eq (nbits w : Nat) : decodeTableWord nbits w = (decodeWord (wordOfTable nbits w)).toOption := by
  have hdecode := decode_bytesOfWord (wordOfTable nbits w) []
  rw [List.append_nil] at hdecode
  rw [decodeTableWord, hdecode]
  cases decodeWord (wordOfTable nbits w) <;> rfl

/-- Settles O15: the word fetched is the word placed. -/
theorem placedWordIsNext : Obligations.PlacedWordIsNext := by
  intro s w
  refine ⟨placeWord_halted s _, ?_⟩
  rw [decodeTableWord_eq, State.nextInstr, State.withFetchWord, if_pos (placeWord_canFetch s _), placeWord_fetchWord]

end Sys2Proof.Machine
end

section
/-! PROOFS. The five events and their sequences (spec/00_scope.md R6, R7): what each event does, and what every sequence keeps. -/

namespace Sys2Proof.Machine

variable {s t : State} {i : Instr} {es : List Event}

/-! ### Sequences of events -/

theorem runEvents_cons {e : Event} (h : applyEvent e s = .next t) : runEvents s (e :: es) = runEvents t es := by
  rw [runEvents, h]

/-- R231, R229: a step answers a next state, whether it is halted, raises or completes. -/
theorem step_total (s : State) : ∃ t, step s = .next t := by
  cases hrun : s.halted with
  | true => exact ⟨s, step_of_halted s hrun⟩
  | false =>
    obtain ⟨c, w, -, hraise, -⟩ | ⟨-, i, t, -, -, ht, -, -⟩ := step_outcome hrun
    · exact ⟨_, hraise⟩
    · exact ⟨t, ht⟩

theorem applyEvent_total (e : Event) (s : State) : ∃ t, applyEvent e s = .next t := by
  cases e with
  | step => exact step_total s
  | tick | reset | load | keyEvent => exact ⟨_, rfl⟩

/-- What each event of a sequence keeps, the whole sequence keeps. -/
theorem runEvents_keeps {P : State → Prop} (hkeeps : ∀ e ∈ es, ∀ s t, P s → applyEvent e s = .next t → P t) (hs : P s)
    (hrun : runEvents s es = .next t) : P t := by
  induction es generalizing s with
  | nil =>
    obtain rfl := eq_of_next hrun rfl
    exact hs
  | cons e es ih =>
    obtain ⟨u, hu⟩ := applyEvent_total e s
    rw [runEvents_cons hu] at hrun
    exact ih (fun e' he' => hkeeps e' (List.mem_cons_of_mem e he')) (hkeeps e List.mem_cons_self s u hs hu) hrun

/-- A `LOAD` of no more than 0xE00 bytes never leaves the run without a program. -/
theorem runBooted_total {b : Boot} (hb : b ≠ .rejected) (hload : ∀ bytes, Event.load bytes ∈ es → bytes.length ≤ 0xE00) :
    ∃ t, runBooted b s es = .next t := by
  induction es generalizing b s with
  | nil => exact ⟨s, rfl⟩
  | cons e es ih =>
    obtain ⟨u, hu⟩ := applyEvent_total e s
    have hafter : b.after e ≠ .rejected := by
      cases e with
      | load bytes =>
        have hlen : ¬progMax < bytes.length := Nat.not_lt.mpr (hload bytes List.mem_cons_self)
        rw [Boot.after, if_neg hlen]
        decide
      | reset => nofun
      | step | tick | keyEvent => exact hb
    rw [runBooted, if_neg fun h => hb h.2, hu]
    exact ih hafter fun bytes hmem => hload bytes (List.mem_cons_of_mem e hmem)

/-- Settles O11: every event answers a state, so a run stops only where it is refused: before `RESET`, or at a `STEP` when its
`LOAD` has been rejected. -/
theorem everyStepAnswersNext : Obligations.EveryStepAnswersNext := by
  refine ⟨step_total, fun c d es hload => runBooted_total (by decide) hload, fun c d es hhead => ?_,
    fun c d bytes es hlen => ?_⟩
  · cases es with
    | nil => rfl
    | cons e es =>
      cases e with
      | reset => exact absurd rfl hhead
      | step | tick | load | keyEvent => rfl
  · have hafter : Boot.noProgram.after (.load bytes) = .rejected := if_pos hlen
    rw [machineRun, runBooted, if_neg (by simp)]
    simp only [applyEvent, hafter]
    rw [runBooted, if_pos ⟨rfl, rfl⟩]

/-! ### Single events -/

/-- R239: one tick takes one off a timer, never below 0. -/
theorem tick_dt_toNat (s : State) : (tick s).dt.toNat = s.dt.toNat - 1 := by
  rw [tick_dt]
  split
  · bv_omega
  · omega

theorem tick_st_toNat (s : State) : (tick s).st.toNat = s.st.toNat - 1 := by
  rw [tick_st]
  split
  · bv_omega
  · omega

/-- Settles O48, by induction on the number of ticks. -/
theorem ticksCountDown : Obligations.TicksCountDown := by
  intro n s
  induction n generalizing s with
  | zero => exact ⟨s, rfl, rfl, rfl, rfl⟩
  | succ n ih =>
    obtain ⟨t, hrun, hdt, hst, hrest⟩ := ih (tick s)
    rw [tick_dt_toNat] at hdt
    rw [tick_st_toNat] at hst
    exact ⟨t, hrun, by omega, by omega, hrest⟩

/-- Settles O49: the write is of KEY alone, bit by bit. -/
theorem keyEventWritesOneBit : Obligations.KeyEventWritesOneBit := by
  intro k down s
  exact ⟨_, rfl, fun j hj => keyEvent_held s k down j hj, rfl⟩

/-- R228: an image that is not too large is stored. -/
theorem loadImage_of_le {bytes : List Byte} (h : bytes.length ≤ 0xE00) (s : State) :
    loadImage bytes s = (.ok, s.storeBytes progBase bytes) :=
  if_neg (Nat.not_lt.mpr h)

theorem loadImage_of_lt {bytes : List Byte} (h : 0xE00 < bytes.length) (s : State) : loadImage bytes s = (.tooLarge, s) :=
  if_pos h

/-- Settles O50: an image that is not too large is stored from 0x200 on. -/
theorem loadPlacesImage : Obligations.LoadPlacesImage := by
  intro bytes s
  refine ⟨rfl, fun h => ⟨_, loadImage_of_le h s, fun k hk => ?_, fun a ha => ?_, State.storeBytes_eq s _ _⟩,
    fun h => loadImage_of_lt h s⟩
  · exact State.storeBytes_readByte_add s progBase hk
  · rw [State.storeBytes_readByte, dif_neg (by unfold progBase; omega)]

/-- Settles O51: memory lists no byte, so every address reads as its reset contents. -/
theorem resetValues : Obligations.ResetValues := by
  intro s
  refine ⟨_, rfl, fun x => ?_, rfl, rfl, rfl, fun k hk => ?_, rfl, rfl, fun a ha => ?_, fun a ha _ => ?_,
    fun r c => pixel_blankScreen r c, rfl, rfl, rfl, rfl, rfl, rfl, rfl, rfl, rfl, rfl⟩
  · simp [State.reg, resetEvent, State.resetWith]
  · simp [resetEvent, State.resetWith]
  · exact dif_pos ha
  · exact dif_neg (by omega)

/-- R260: after `RESET` the core runs with STATUS = 0, waits for no key, and memory lists no byte. -/
theorem resetWith_invariants (c : Config) (d : Nat) : (State.resetWith c d).Inv ∧ (State.resetWith c d).AwaitInv :=
  ⟨inv_of_running (State.resetWith_mem_wf c d) rfl rfl, nofun⟩

/-- Settles O52: `State.reset` is the state after `RESET` with the default parameters. -/
theorem resetMeetsInvariants : Obligations.ResetMeetsInvariants :=
  ⟨(resetWith_invariants _ _).1, (resetWith_invariants _ _).2, resetWith_invariants⟩

/-! ### What the host changes: the timers, KEY and memory -/

/-- From `s` to `t` nothing changed but DT, ST, KEY and memory: what `TICK`, `KEYEVENT` and `LOAD` write (R239, R242, R262). -/
def HostChange (s t : State) : Prop := t = { s with dt := t.dt, st := t.st, key := t.key, mem := t.mem }

theorem HostChange.refl (s : State) : HostChange s s := rfl

theorem HostChange.trans {u : State} (h : HostChange s t) (h' : HostChange t u) : HostChange s u := by
  rw [HostChange, h', h]

theorem applyEvent_hostChange {e : Event} (hstep : e ≠ .step) (hreset : e ≠ .reset) (h : applyEvent e s = .next t) :
    HostChange s t := by
  cases e with
  | step => exact absurd rfl hstep
  | reset => exact absurd rfl hreset
  | tick | keyEvent =>
    obtain rfl := eq_of_next h rfl
    rfl
  | load bytes =>
    obtain rfl := eq_of_next h rfl
    rw [HostChange, loadImage]
    split
    · rfl
    · rw [State.storeBytes_eq]

/-! ### The invariant in every run (R7, R261) -/

/-- The invariant speaks of memory, PC, the parameters and the error registers alone. -/
theorem State.Inv.of_hostChange (hinv : s.Inv) (h : HostChange s t) (hm : Memory.wf s.cfg.resetByte t.mem = true) : t.Inv := by
  rw [h]
  exact { hinv with mem := hm }

/-- R71, R228: `LOAD` keeps the canonical form of memory: it writes inside the space or not at all. -/
theorem loadImage_memWf (bytes : List Byte) (hm : Memory.wf s.cfg.resetByte s.mem = true) :
    Memory.wf s.cfg.resetByte (loadImage bytes s).2.mem = true := by
  by_cases h : bytes.length ≤ 0xE00
  · rw [loadImage_of_le h, ← State.storeBytes_cfg s progBase bytes]
    exact State.storeBytes_wf s (by unfold progBase memTop; omega) hm
  · rwa [loadImage_of_lt (by omega)]

/-- R38: a step changes no parameter. -/
theorem step_cfg (hstep : step s = .next t) : t.cfg = s.cfg := by
  cases hrun : s.halted with
  | true => rw [eq_of_next hstep (step_of_halted s hrun)]
  | false =>
    obtain ⟨c, w, -, hraise, -⟩ | ⟨-, i, t', -, -, ht', -, hframe⟩ := step_outcome hrun
    · rw [eq_of_next hstep hraise]
      rfl
    · obtain rfl := eq_of_next hstep ht'
      exact hframe.cfg

/-- Every event keeps the invariant and the parameters. -/
theorem applyEvent_keeps_inv (e : Event) (hinv : s.Inv) (h : applyEvent e s = .next t) : t.Inv ∧ t.cfg = s.cfg := by
  cases e with
  | step => exact ⟨stepKeepsInvariant s t hinv h, step_cfg h⟩
  | reset =>
    obtain rfl := eq_of_next h rfl
    exact ⟨(resetWith_invariants _ _).1, rfl⟩
  | tick | keyEvent =>
    have hchange := applyEvent_hostChange (by nofun) (by nofun) h
    obtain rfl := eq_of_next h rfl
    exact ⟨hinv.of_hostChange hchange hinv.mem, rfl⟩
  | load bytes =>
    have hchange := applyEvent_hostChange (by nofun) (by nofun) h
    obtain rfl := eq_of_next h rfl
    exact ⟨hinv.of_hostChange hchange (loadImage_memWf bytes hinv.mem), by rw [hchange]⟩

/-- A state with the invariant and the parameters `c`. -/
def InvWith (c : Config) (s : State) : Prop := s.Inv ∧ s.cfg = c

theorem runEvents_keeps_inv (hs : s.Inv) (hrun : runEvents s es = .next t) : InvWith s.cfg t := by
  refine runEvents_keeps (P := InvWith s.cfg) (fun e _ u v hu hv => ?_) ⟨hs, rfl⟩ hrun
  obtain ⟨hinv, hcfg⟩ := hu
  obtain ⟨hinv', hcfg'⟩ := applyEvent_keeps_inv e hinv hv
  exact ⟨hinv', hcfg'.trans hcfg⟩

/-- Settles O54: each event keeps both, and a run of the machine is a sequence of events from the state after `RESET`. -/
theorem everyRunKeepsInvariant : Obligations.EveryRunKeepsInvariant := by
  refine ⟨fun es s t => runEvents_keeps_inv, fun c d es t hrun => ?_⟩
  obtain ⟨es', -, hrun'⟩ := machineRun_next hrun
  exact runEvents_keeps_inv (resetWith_invariants c d).1 hrun'

/-! ### The key wait (R33, R275) -/

/-- The instruction at PC depends on PC, memory and the parameters alone. -/
theorem State.nextInstr_congr (hpc : t.pc = s.pc) (hmem : t.mem = s.mem) (hcfg : t.cfg = s.cfg) :
    t.nextInstr = s.nextInstr := by
  have hfetch : t.canFetch = s.canFetch := by rw [State.canFetch, hpc, State.canFetch]
  have hword : t.fetchWord = s.fetchWord := by simp only [State.fetchWord, State.readByte, hpc, hmem, hcfg]
  rw [State.nextInstr, hfetch, hword, State.nextInstr]

/-- R33: `Fx0A` alone has the key wait in its write set. -/
theorem writes_keyWait (h : ∀ x, i ≠ .ldVxK x) : (i.writes s).keyWait = false := by
  cases i with
  | ldVxK x => exact absurd rfl (h x)
  | _ => rfl

/-- R33: a wait that goes on stays at its instruction, and no other instruction begins one; with `Fx0A` at PC a step raises
nothing. -/
theorem step_keeps_awaitInv (hinv : s.AwaitInv) (hstep : step s = .next t) : t.AwaitInv := by
  cases hrun : s.halted with
  | true =>
    obtain rfl := eq_of_next hstep (step_of_halted s hrun)
    exact hinv
  | false =>
    obtain ⟨c, w, hcause, hraise, -⟩ | ⟨-, i, t', hinstr, hcheck, ht', hexec, hframe⟩ := step_outcome hrun
    · obtain rfl := eq_of_next hstep hraise
      intro hawait
      obtain ⟨-, x, hx⟩ := hinv hawait
      cases hcause.symm.trans (nextCause_of_nextInstr hx)
    · obtain rfl := eq_of_next hstep ht'
      by_cases hwait : ∃ x, i = .ldVxK x
      · obtain ⟨x, rfl⟩ := hwait
        obtain hwaits | ⟨b, hdelivers⟩ := exec_ldVxK_cases x s.beginStep
        · obtain rfl := eq_of_next hexec hwaits
          exact fun _ => ⟨hrun, x, (State.nextInstr_congr (s := s) rfl rfl rfl).trans hinstr⟩
        · obtain rfl := eq_of_next hexec hdelivers
          exact nofun
      · intro hawait
        have hsame := (hframe.keyWait (writes_keyWait (not_exists.mp hwait))).1
        obtain ⟨-, x, hx⟩ := hinv (hsame.symm.trans hawait)
        exact absurd ⟨x, Option.some.inj (hinstr.symm.trans hx)⟩ hwait

/-- Settles O55: `RESET` ends the wait, and `TICK` and `KEYEVENT` write nothing that it depends on. -/
theorem awaitMeansKeyWaitAtPc : Obligations.AwaitMeansKeyWaitAtPc := by
  intro es s t hnoload hinv hrun
  refine runEvents_keeps (P := State.AwaitInv) (fun e he u v hu hv => ?_) hinv hrun
  cases e with
  | step => exact step_keeps_awaitInv hu hv
  | tick | keyEvent =>
    obtain rfl := eq_of_next hv rfl
    exact hu
  | reset =>
    obtain rfl := eq_of_next hv rfl
    exact nofun
  | load bytes => exact absurd he (hnoload bytes)

/-! ### Halted cores (R31, R233) -/

/-- Settles O56: a halted core is not changed by a step, and the other events change what the host changes. -/
theorem onlyResetLeavesHalt : Obligations.OnlyResetLeavesHalt := by
  intro es s t hnoreset hhalt hrun
  refine runEvents_keeps (P := HostChange s) (fun e he u v hu hv => ?_) (HostChange.refl s) hrun
  by_cases hstep : e = .step
  · subst hstep
    have hhalt' : u.halted = true := by rw [hu]; exact hhalt
    rwa [eq_of_next hv (step_of_halted u hhalt')]
  · have hreset : e ≠ .reset := fun h => hnoreset (h ▸ he)
    exact hu.trans (applyEvent_hostChange hstep hreset hv)

/-! ### Ends of a run (R268) -/

/-- R121, R123: a jump to itself leaves PC, so a step has only cleared DIRTY and STATUS. -/
theorem selfJump_step (h : s.SelfJump) : step s = .next s.beginStep ∧ s.beginStep.SelfJump := by
  obtain ⟨hrun, nnn, htarget, hinstr⟩ := h
  have hstays : s.beginStep.setPc (immNnn nnn) = s.beginStep := by
    rw [htarget]
    rfl
  refine ⟨?_, hrun, nnn, htarget, hinstr⟩
  obtain hjp | hsys := hinstr
  · exact (step_of_nextInstr s hrun hjp).trans (congrArg _ hstays)
  · exact (step_of_nextInstr s hrun hsys).trans (congrArg _ hstays)

/-- From `s` to `t`, a self-jump, nothing changed but DT, ST, KEY, DIRTY and STATUS. -/
def IdlesTo (s t : State) : Prop :=
  t.SelfJump ∧ t = { s with dt := t.dt, st := t.st, key := t.key, dirty := t.dirty, status := t.status }

/-- D32: a self-jump goes on under every event but `RESET` and `LOAD`. -/
theorem applyEvent_idles {e : Event} {u : State} (hreset : e ≠ .reset) (hload : ∀ bytes, e ≠ .load bytes) (h : IdlesTo s t)
    (hu : applyEvent e t = .next u) : IdlesTo s u := by
  obtain ⟨hself, hrest⟩ := h
  cases e with
  | step =>
    obtain ⟨hstep, hself'⟩ := selfJump_step hself
    obtain rfl := eq_of_next hu hstep
    refine ⟨hself', ?_⟩
    rw [hrest]
    rfl
  | tick | keyEvent =>
    obtain rfl := eq_of_next hu rfl
    refine ⟨hself, ?_⟩
    rw [hrest]
    rfl
  | reset => exact absurd rfl hreset
  | load bytes => exact absurd rfl (hload bytes)

/-- R268: of two ends of a run neither comes before the other. -/
theorem runEnds_unique {c : Config} {d : Nat} {es' : List Event} {t' : State} (h : RunEnds c d es t)
    (h' : RunEnds c d es' t') (hes : es <+: es') : es = es' ∧ t = t' := by
  obtain ⟨hrun, hend, -⟩ := h
  obtain ⟨hrun', -, hfirst'⟩ := h'
  have hlen : es'.length ≤ es.length := by
    by_contra hlt
    have htake : es'.take es.length = es := (List.prefix_iff_eq_take.mp hes).symm
    exact hfirst' es.length (by omega) t (htake.symm ▸ hrun) hend
  obtain rfl := hes.eq_of_length_le hlen
  exact ⟨rfl, eq_of_next hrun hrun'⟩

/-- Settles O60: the step at a self-jump, what every event but `RESET` and `LOAD` keeps of it, and the end of a run as its
first. -/
theorem selfJumpIsFixedPoint : Obligations.SelfJumpIsFixedPoint := by
  refine ⟨fun s => selfJump_step, fun es s t hnoreset hnoload hself hrun => ?_, fun c d es es' t t' => runEnds_unique⟩
  refine runEvents_keeps (P := IdlesTo s) (fun e he u v hu hv => ?_) ⟨hself, rfl⟩ hrun
  exact applyEvent_idles (fun h => hnoreset (h ▸ he)) (fun bytes h => hnoload bytes (h ▸ he)) hu hv

end Sys2Proof.Machine
end
